-- ==== Sys2Proof/Word.lean ====
section
/-! DEFINITION. Word.lean: the three word types of the machine (spec/00_scope.md R7, R10). -/

namespace Sys2Proof

/-- One byte: the unit of every memory access (00_scope.md R7). -/
abbrev Byte := BitVec 8

/-- A 16-bit register or operand: A, X, Y, S, DP and PC (00_scope.md R7). -/
abbrev Word := BitVec 16

/-- A 24-bit CPU-side address, bank and offset (00_scope.md R7, 20_memory.md R80). -/
abbrev Addr := BitVec 24

end Sys2Proof
end

