-- ==== Sys2Proof/Machine/Bits.lean ====
section
/-! DEFINITION. Machine/Bits.lean: byte views, byte order, sign extension and the two operand widths
(spec/00_scope.md R10 and R11, spec/20_memory.md R97). -/

namespace Sys2Proof.Machine

/-- The low byte of a word: AL, XL, YL, SL (00_scope.md R11). -/
def lo (w : Word) : Byte := w.setWidth 8

/-- The high byte of a word: AH, XH, YH, SH (00_scope.md R11). -/
def hi (w : Word) : Byte := (w >>> 8).setWidth 8

/-- The word whose high byte is `h` and whose low byte is `l`: `l | h << 8` (20_memory.md R97). -/
def join (h l : Byte) : Word := h ++ l

/-- `zext_16` of a byte (00_scope.md R10). -/
def zext (b : Byte) : Word := b.setWidth 16

/-- `sext_8` of a byte, as a 16-bit word (00_scope.md R10, 30_encoding.md R133). -/
def sext (b : Byte) : Word := b.signExtend 16

/-- `bank:off`, the 24-bit address `(bank << 16) | off` (00_scope.md R10). -/
def addr (bank : Byte) (off : Word) : Addr := bank ++ off

/-- `00:off`: an address of bank 0. -/
def bank0 (off : Word) : Addr := addr 0 off

/-- Bits 23:16 of an address. -/
def bankOf (a : Addr) : Byte := (a >>> 16).setWidth 8

/-- Bits 15:0 of an address. -/
def offOf (a : Addr) : Word := a.setWidth 16

/-- A word as a 24-bit number: the index that a 24-bit sum adds (40_addressing.md R169, R173, R176, R178). -/
def wide (w : Word) : Addr := w.setWidth 24

/-- The width of an operand, `wM` or `wX`: 8 or 16 bits (00_scope.md R11). -/
inductive Width where
  /-- an 8-bit operand -/
  | w8
  /-- a 16-bit operand -/
  | w16
  deriving DecidableEq, Repr

/-- The width a flag names: M8 or X8 true is 8 bits (00_scope.md R11). -/
def widthOf (eight : Bool) : Width := if eight then .w8 else .w16

/-- The number of bits of a width. -/
def Width.bits : Width → Nat
  | .w8 => 8
  | .w16 => 16

/-- The number of bytes of a width: the number of accesses an operand takes (40_addressing.md R163). -/
def Width.bytes : Width → Nat
  | .w8 => 1
  | .w16 => 2

/-- `2^w - 1`: the mask of a width. -/
def Width.ones : Width → Word
  | .w8 => 0x00FF
  | .w16 => 0xFFFF

/-- `v mod 2^w`: the part of a word that an operand of the width has. -/
def Width.trunc (w : Width) (v : Word) : Word := v &&& w.ones

/-- `v[w-1]`: the sign bit of an operand of the width (43_alu.md R250). -/
def Width.sign (w : Width) (v : Word) : Bool := v.getLsbD (w.bits - 1)

/-- A flag as a bit at position `k` of a byte (10_state.md R41, R42). -/
def bitAt (b : Bool) (k : Nat) : Byte := if b then 1 <<< k else 0

end Sys2Proof.Machine
end

