-- ==== Sys2Proof/Config.lean ====
section
/-! DEFINITION. Config.lean: what one instance of the core fixes, as plain data the state carries, and the free values.

`spec/00_scope.md` R8 lists the parameters and says that the model takes each one as an argument: `Params` is that
argument. The state holds it (`State.cfg`), no step changes it, and a statement about every state is a statement about
every value of every parameter. The values the spec gives as defaults are in `Machine/Params.lean`. -/

namespace Sys2Proof

/-- An inclusive range of decoded addresses (00_scope.md R8: LOW_WIN, HIGH_WIN, ROM_WIN). -/
structure Window where
  /-- the lowest address of the window -/
  first : Addr
  /-- the highest address of the window -/
  last : Addr
  deriving DecidableEq, Repr

/-- The two paging windows (00_scope.md R8: the first argument of PAGE_MAP). -/
inductive Paging where
  /-- the low 16K window -/
  | low
  /-- the high 16K window -/
  | high
  deriving DecidableEq, Repr

/-- The banking latches that control address decode (10_state.md R47). They are written only through the banking-control
window and no read returns them. -/
structure Latches where
  /-- `def`: true is default memory mode, false is extended memory mode -/
  defMode : Bool
  /-- `divider`: stored, read by no decode rule -/
  divider : BitVec 4
  /-- `banking`: paging of the two windows, ROM overlay, and one stored unused bit -/
  banking : BitVec 4
  /-- `banknum`: bits 2:0 the low window's page, bits 5:3 the high window's page -/
  banknum : BitVec 6
  deriving DecidableEq, Repr

/-- A value of a parameter that is a function, as plain data: the arguments at which it differs from the spec's default,
each with its result there. Every function on a finite domain is such a table (Laws/Params.lean). -/
abbrev Table (κ τ : Type) := List (κ × τ)

/-- The parameters of 00_scope.md R8. `PAGE_MAP` and `BANKCTL_WRITE` are functions; a state that is plain data holds
each as the table of its differences from the default (notes/assumptions/1.md). -/
structure Params where
  /-- TUBE_BASE: base of the 8-byte Tube handshake window -/
  tubeBase : Addr
  /-- BANKCTL_BASE: base of the 8-byte banking-control window -/
  bankctlBase : Addr
  /-- LOW_WIN: the low 16K paging window -/
  lowWin : Window
  /-- HIGH_WIN: the high 16K paging window -/
  highWin : Window
  /-- ROM_WIN: the top 32K -/
  romWin : Window
  /-- BANKING_BITS: the bit of `banking` that enables paging of the low window -/
  lowBit : Fin 4
  /-- BANKING_BITS: the bit of `banking` that enables paging of the high window -/
  highBit : Fin 4
  /-- BANKING_BITS: the bit of `banking` that enables the ROM overlay of extended mode -/
  romBit : Fin 4
  /-- PAGE_MAP(w, sel, a'): the RAM byte index of a paged access -/
  pageMap : Table (Paging × BitVec 3 × Addr) (BitVec 19)
  /-- BANKCTL_WRITE(k, v): the latches after a write of byte `v` to register `k`, from the latches before it -/
  bankctl : Table (BitVec 3 × Byte × Latches) Latches
  /-- STP_CYCLES: the very large fixed cycle cost of STP -/
  stpCycles : Nat
  /-- WAI_IDLE_CYCLES: cycles debited by one idle iteration while waiting -/
  waiIdleCycles : Nat
  deriving DecidableEq, Repr

/-- FREE VALUE. The byte the host's Tube interface answers to the `n`-th read of the window, of register `reg`, once the
answers that the state lists are used up (20_memory.md R84, 93_implementation_defined.md Part 1 'Tube register answers':
any value per read). It has no body, so nothing can be proved of its value (notes/assumptions/2.md). -/
opaque Config.tubeFree : (n : Nat) → (reg : BitVec 3) → Byte

end Sys2Proof
end

