-- ==== Sys2Proof/Machine/Memory.lean ====
section
/-! DEFINITION. Machine/Memory.lean: a byte array as a list of (index, byte) pairs in one canonical form.

RAM and ROM (spec/10_state.md R53) are each one such list: indexes strictly rising, and no entry equal to what an
unlisted index reads as. Equal arrays are equal lists. -/

namespace Sys2Proof.Machine

/-- A byte array: the cells that differ from `blank`, by rising index. -/
abbrev Memory := List Host.Cell

/-- What an unlisted index reads as: 00H. DESIGN CHOICE, unsafe (notes/assumptions/3.md): the spec draws the power-on
contents of RAM (70_reset_and_hazards.md R600) and takes the ROM image as an argument. -/
def Memory.blank : Byte := 0

/-- The byte at index `i`. -/
def Memory.read : Memory → Nat → Byte
  | [], _ => Memory.blank
  | (k, v) :: rest, i => if k = i then v else Memory.read rest i

/-- A cell in front of a list, unless it holds what an unlisted index reads as. -/
def Memory.cons (i : Nat) (v : Byte) (rest : Memory) : Memory :=
  if v = Memory.blank then rest else (i, v) :: rest

/-- The array with byte `v` at index `i`, in canonical form. -/
def Memory.write : Memory → Nat → Byte → Memory
  | [], i, v => Memory.cons i v []
  | (k, u) :: rest, i, v =>
    if i < k then Memory.cons i v ((k, u) :: rest)
    else if i = k then Memory.cons i v rest
    else (k, u) :: Memory.write rest i v

/-- The canonical form: indexes strictly rising, no entry that an unlisted index would read as. -/
def Memory.wf : Memory → Bool
  | [] => true
  | (k, v) :: rest => v != Memory.blank && rest.all (fun c => k < c.1) && Memory.wf rest

/-- Every listed index lies below `n`. -/
def Memory.below (n : Nat) (m : Memory) : Bool := m.all (fun c => c.1 < n)

end Sys2Proof.Machine
end

