-- ==== Sys2Proof/Machine/Params.lean ====
section
/-! DEFINITION. Machine/Params.lean: the spec's default of every parameter of 00_scope.md R8, and the sizes it fixes. -/

namespace Sys2Proof.Machine

/-- ROM_SIZE: 32 KiB (00_scope.md R8, 92 D14). -/
def romSize : Nat := 0x8000

/-- RAM_SIZE: 512 KiB, every index the 19-bit mask reaches (00_scope.md R8, 20_memory.md R92, 92 D15). -/
def ramSize : Nat := 0x80000

/-- The defaults of 00_scope.md R8, each one the spec's decision and no source value (notes/assumptions/1.md). -/
def defaultParams : Params where
  tubeBase := 0x00FEF8
  bankctlBase := 0x00FEF0
  lowWin := ⟨0x004000, 0x007FFF⟩
  highWin := ⟨0x008000, 0x00BFFF⟩
  romWin := ⟨0x008000, 0x00FFFF⟩
  lowBit := 0
  highBit := 1
  romBit := 2
  pageMap := []
  bankctl := []
  stpCycles := 100000
  waiIdleCycles := 1

/-- What 00_scope.md R8 asks of the two window bases: both 8-aligned, and different. -/
def paramsOk (c : Params) : Bool :=
  c.tubeBase &&& 7 == 0 && c.bankctlBase &&& 7 == 0 && c.tubeBase != c.bankctlBase

end Sys2Proof.Machine
end

