-- ==== Sys2Proof/Machine/State.lean ====
section
/-! DEFINITION. Machine/State.lean: everything the spec gives the machine, as plain data (spec/10_state.md). -/

namespace Sys2Proof.Machine

/-- The processor status P, as a plain struct of booleans (10_state.md R37). The emulation flag e is not part of P. -/
structure Flags where
  /-- carry -/
  c : Bool
  /-- zero -/
  z : Bool
  /-- IRQ disable -/
  i : Bool
  /-- decimal -/
  d : Bool
  /-- overflow -/
  v : Bool
  /-- negative -/
  n : Bool
  /-- accumulator width: false is 16-bit -/
  m : Bool
  /-- index width: false is 16-bit -/
  ex : Bool
  deriving DecidableEq, Repr

/-- The three input bits the host asserts (10_state.md R51, 60_exceptions.md R520). -/
structure Lines where
  /-- IRQ_BIT: a level -/
  irq : Bool
  /-- NMI_BIT: a request that the core acknowledges -/
  nmi : Bool
  /-- RESET_BIT: a request -/
  reset : Bool
  deriving DecidableEq, Repr

/-- A call of the core to the host (60_exceptions.md R524 to R526). -/
inductive HostCall where
  /-- `tube_parasite_read(reg)` and the byte it answered -/
  | tubeRead (reg : BitVec 3) (answer : Byte)
  /-- `tube_parasite_write(reg, v)` -/
  | tubeWrite (reg : BitVec 3) (v : Byte)
  /-- `nmi_ack()` -/
  | nmiAck
  deriving DecidableEq, Repr

/-- The other side of the interface, as plain data: what the host will do, and what the core has asked of it. These four
fields are the MODEL's own (notes/assumptions/2.md and 4.md): the first three are the oracles of 20_memory.md R84 and
60_exceptions.md R520, the last records the calls the core makes. -/
structure HostSide where
  /-- the answers the host will give to the next reads of the Tube window, the next one first -/
  answers : List Byte
  /-- how many reads of the Tube window there have been: the index of the free value `Config.tubeFree` -/
  reads : Nat
  /-- the input bits the host will have set by the next boundaries, the next one first; past the end it leaves them -/
  inputs : List Lines
  /-- the calls the core has made to the host, the latest first -/
  calls : List HostCall
  deriving DecidableEq, Repr

/-- The state of the machine. -/
structure State where
  /-- accumulator; AL and AH are its byte views (10_state.md R30, R31) -/
  a : Word
  /-- index register X (10_state.md R30, R32) -/
  x : Word
  /-- index register Y (10_state.md R30, R32) -/
  y : Word
  /-- stack pointer (10_state.md R30, R33) -/
  s : Word
  /-- direct-page base (10_state.md R30, R34) -/
  dp : Word
  /-- program counter: offset within the program bank (10_state.md R30, R35) -/
  pc : Word
  /-- program bank (10_state.md R30, R36) -/
  pbr : Byte
  /-- data bank (10_state.md R30, R36) -/
  dbr : Byte
  /-- the status flags P (10_state.md R37) -/
  p : Flags
  /-- emulation flag (10_state.md R37, R38) -/
  e : Bool
  /-- set by WAI until an interrupt is taken (10_state.md R49) -/
  wai : Bool
  /-- set by a write to the Tube window (10_state.md R52) -/
  yieldReq : Bool
  /-- the cycle counter: signed and unbounded (10_state.md R50, 60_exceptions.md R517) -/
  cycles : Int
  /-- the input bits (10_state.md R51) -/
  lines : Lines
  /-- the banking latches (10_state.md R47) -/
  banks : Latches
  /-- RAM (10_state.md R53) -/
  ram : Memory
  /-- ROM, installed by `init` (10_state.md R53) -/
  rom : Memory
  /-- native vector bank, set by `init` (10_state.md R53) -/
  nvb : Byte
  /-- the parameters of the instance (00_scope.md R8) -/
  cfg : Params
  /-- the host's side of the interface, the model's own -/
  host : HostSide
  deriving DecidableEq, Repr

/-- Why the machine stops with a fault. The core has no exception path, so there is no such reason
(60_exceptions.md R500: no instruction, operand, address or memory access ever faults; 20_memory.md R94). Nobody raises
one; safe. -/
inductive Fault where
  deriving DecidableEq, Repr

/-- Why the model has no next state. -/
inductive Refusal where
  /-- Raised by `exec` for an instruction that has no meaning yet. Safe. No arm raises it. -/
  | notModelled (mnemonic : String)
  /-- Raised by `step` if the decoder refused the bytes that the fetch read. Safe. The fetch reads as many bytes as the
  opcode's format asks for, so no state reaches it (30_encoding.md R138). -/
  | undecodable
  /-- Raised by `apiCall` for `exec` or `reset` before `init` (70_reset_and_hazards.md R603: a call before `init` has
  no meaning, a model refuses it). Safe. -/
  | beforeInit
  deriving DecidableEq, Repr

/-- The state right after `init` with a blank ROM image, native vector bank 0 and the default parameters, on a machine
whose RAM was blank at power-on (70_reset_and_hazards.md R600, R601; the table of 10_state.md R55). The program counter
is the word at the reset vector of that image, 0000H. The blank images and the parameters are in
notes/assumptions/1.md and 3.md. -/
def State.reset : State where
  a := 0
  x := 0
  y := 0
  s := 0x01FF
  dp := 0
  pc := 0
  pbr := 0
  dbr := 0
  p := { c := false, z := false, i := true, d := false, v := false, n := false, m := true, ex := true }
  e := true
  wai := false
  yieldReq := false
  cycles := 0
  lines := { irq := false, nmi := false, reset := false }
  banks := { defMode := true, divider := 0, banking := 0, banknum := 0 }
  ram := []
  rom := []
  nvb := 0
  cfg := defaultParams
  host := { answers := [], reads := 0, inputs := [], calls := [] }

end Sys2Proof.Machine
end

