-- ==== Sys2Proof/Machine/Flags.lean ====
section
/-! DEFINITION. Machine/Flags.lean: packing of the status byte, the flag computations, and the arithmetic that sets
them (spec/10_state.md R41 to R44, spec/43_alu.md R250 to R256, spec/44_rmw.md R291 to R302). Every function here is on
values alone; the state is not named. -/

namespace Sys2Proof.Machine

/-! ### The status byte -/

/-- `PackN()`: native packing (10_state.md R41). -/
def packN (f : Flags) : Byte :=
  bitAt f.c 0 ||| bitAt f.z 1 ||| bitAt f.i 2 ||| bitAt f.d 3 ||| bitAt f.ex 4 ||| bitAt f.m 5 ||| bitAt f.v 6 |||
    bitAt f.n 7

/-- `PackE(brk)`: emulation packing; bit 4 is the break flag and bit 5 reads 1 (10_state.md R42). -/
def packE (brk : Bool) (f : Flags) : Byte :=
  bitAt f.c 0 ||| bitAt f.z 1 ||| bitAt f.i 2 ||| bitAt f.d 3 ||| bitAt brk 4 ||| bitAt true 5 ||| bitAt f.v 6 |||
    bitAt f.n 7

/-- The flags of `UnpackN(p)`: all eight (10_state.md R43). -/
def flagsN (p : Byte) : Flags where
  c := p.getLsbD 0
  z := p.getLsbD 1
  i := p.getLsbD 2
  d := p.getLsbD 3
  ex := p.getLsbD 4
  m := p.getLsbD 5
  v := p.getLsbD 6
  n := p.getLsbD 7

/-- The flags of `UnpackE(p)`: bits 4 and 5 are ignored, the stored m and ex become 0 (10_state.md R44). -/
def flagsE (p : Byte) : Flags where
  c := p.getLsbD 0
  z := p.getLsbD 1
  i := p.getLsbD 2
  d := p.getLsbD 3
  ex := false
  m := false
  v := p.getLsbD 6
  n := p.getLsbD 7

/-! ### n and z -/

/-- `SetNZ(v, w)` (43_alu.md R250). -/
def setNZ (w : Width) (v : Word) (f : Flags) : Flags :=
  { f with n := w.sign v, z := w.trunc v == 0 }

/-! ### Add, subtract and compare -/

/-- What an addition or subtraction gives: `(res, c, v)` (43_alu.md R252). -/
structure AluResult where
  /-- the result, modulo `2^w` -/
  res : Word
  /-- carry out; for a subtraction, no borrow -/
  c : Bool
  /-- signed overflow -/
  v : Bool
  deriving DecidableEq, Repr

/-- `v <- (~(a ^ b) & (a ^ r))[w-1]`: operands of equal sign, result of the other sign (43_alu.md R252).
The intermediate `r` may be negative, and its bit is that of two's complement (43_alu.md R251). -/
def overflow (w : Width) (a b : Word) (r : Int) : Bool :=
  w.sign a == w.sign b && w.sign a != w.sign (BitVec.ofInt 16 r)

/-- The result `res <- r mod 2^w` with the two flags. -/
def aluResult (w : Width) (r : Int) (v : Bool) : AluResult :=
  { res := w.trunc (BitVec.ofInt 16 r), c := decide ((2 : Int) ^ w.bits ≤ r), v := v }

/-- `AddBin(a, b, cin, w)` (43_alu.md R252). -/
def addBin (w : Width) (a b : Word) (cin : Bool) : AluResult :=
  let r : Int := a.toNat + b.toNat + cin.toNat
  aluResult w r (overflow w a b r)

/-- `SubBin(a, b, cin, w) = AddBin(a, b ^ (2^w - 1), cin, w)` (43_alu.md R253). -/
def subBin (w : Width) (a b : Word) (cin : Bool) : AluResult := addBin w a (b ^^^ w.ones) cin

/-- The number of decimal digits of an operand: `N = w/4` (43_alu.md R254). -/
def Width.nibbles : Width → Nat
  | .w8 => 2
  | .w16 => 4

/-- `x & (0xF << 4k)`: the nibble group `k` of an operand, in its place (43_alu.md R254). -/
def nibbleAt (x : Word) (k : Nat) : Int := ((x.toNat >>> (4 * k)) % 16 * 16 ^ k : Nat)

/-- The sum of nibble group `k`, before its correction, over the groups below it:
`(a & (0xF << 4k)) + (b & (0xF << 4k)) + (c << 4k) + (r & (2^(4k) - 1))` (43_alu.md R254, R255). -/
def nibbleSum (a b : Word) (k : Nat) (r : Int) (c : Bool) : Int :=
  nibbleAt a k + nibbleAt b k + c.toNat * 16 ^ k + r % 16 ^ k

/-- The correction of an addition: a group over 9 has 6 added (43_alu.md R254). -/
def fixAdd (k : Nat) (r : Int) : Int := if 10 * 16 ^ k ≤ r then r + 6 * 16 ^ k else r

/-- The correction of a subtraction: a group that borrowed has 6 subtracted (43_alu.md R255). -/
def fixSub (k : Nat) (r : Int) : Int := if r < 16 * 16 ^ k then r - 6 * 16 ^ k else r

/-- The nibble groups below group `k`, each corrected by `fix`, with the carry into group `k` (43_alu.md R254, R255). -/
def nibblesBelow (fix : Nat → Int → Int) (a b : Word) (cin : Bool) : Nat → Int × Bool
  | 0 => (0, cin)
  | k + 1 =>
    let below := nibblesBelow fix a b cin k
    let r := fix k (nibbleSum a b k below.1 below.2)
    (r, decide (16 * 16 ^ k ≤ r))

/-- The nibble loop with its top group: v is taken before the top group's correction (43_alu.md R254, R255). -/
def nibbleLoop (fix : Nat → Int → Int) (w : Width) (a b : Word) (cin : Bool) : AluResult :=
  let top := w.nibbles - 1
  let below := nibblesBelow fix a b cin top
  let r := nibbleSum a b top below.1 below.2
  aluResult w (fix top r) (overflow w a b r)

/-- `AddDec(a, b, cin, w)` (43_alu.md R254). -/
def addDec (w : Width) (a b : Word) (cin : Bool) : AluResult := nibbleLoop fixAdd w a b cin

/-- `SubDec(a, b, cin, w)`: the loop on the one's complement of `b` (43_alu.md R255). -/
def subDec (w : Width) (a b : Word) (cin : Bool) : AluResult := nibbleLoop fixSub w a (b ^^^ w.ones) cin

/-- The flags of `Cmp(a, b, w)`: always binary, no carry in, v unchanged (43_alu.md R256). -/
def cmpFlags (w : Width) (a b : Word) (f : Flags) : Flags :=
  { setNZ w (w.trunc (a - b)) f with c := decide (b.toNat ≤ a.toNat) }

/-- The flags of BIT: z from the AND; n and v from the operand's two top bits in the memory forms (43_alu.md R265). -/
def bitTest (w : Width) (memory : Bool) (a v : Word) (f : Flags) : Flags :=
  { f with
    z := a &&& v == 0
    n := if memory then v.getLsbD (w.bits - 1) else f.n
    v := if memory then v.getLsbD (w.bits - 2) else f.v }

/-! ### The functions of the read-modify-write group: the new value, and the flags it sets -/

/-- ASL (44_rmw.md R291). -/
def aslFn (w : Width) (v : Word) (f : Flags) : Word × Flags :=
  let r := w.trunc (v <<< 1)
  (r, { setNZ w r f with c := w.sign v })

/-- LSR (44_rmw.md R292). -/
def lsrFn (w : Width) (v : Word) (f : Flags) : Word × Flags :=
  let r := v >>> 1
  (r, { setNZ w r f with c := v.getLsbD 0 })

/-- ROL, through the old carry (44_rmw.md R293). -/
def rolFn (w : Width) (v : Word) (f : Flags) : Word × Flags :=
  let r := w.trunc (v <<< 1 ||| if f.c then (1 : Word) else 0)
  (r, { setNZ w r f with c := w.sign v })

/-- ROR, through the old carry (44_rmw.md R294). -/
def rorFn (w : Width) (v : Word) (f : Flags) : Word × Flags :=
  let r := v >>> 1 ||| if f.c then (1 : Word) <<< (w.bits - 1) else 0
  (r, { setNZ w r f with c := v.getLsbD 0 })

/-- INC (44_rmw.md R295). -/
def incFn (w : Width) (v : Word) (f : Flags) : Word × Flags :=
  let r := w.trunc (v + 1)
  (r, setNZ w r f)

/-- DEC (44_rmw.md R296). -/
def decFn (w : Width) (v : Word) (f : Flags) : Word × Flags :=
  let r := w.trunc (v - 1)
  (r, setNZ w r f)

/-- TSB: z from the AND with the accumulator, before the bits are set (44_rmw.md R301). -/
def tsbFn (acc : Word) (_ : Width) (v : Word) (f : Flags) : Word × Flags :=
  (v ||| acc, { f with z := acc &&& v == 0 })

/-- TRB: z from the AND with the accumulator, before the bits are reset (44_rmw.md R302). -/
def trbFn (acc : Word) (w : Width) (v : Word) (f : Flags) : Word × Flags :=
  (w.trunc (v &&& ~~~acc), { f with z := acc &&& v == 0 })

end Sys2Proof.Machine
end

