-- ==== Sys2Proof/Machine/Ops.lean ====
section
/-! DEFINITION. Machine/Ops.lean: the named operations over registers and memory: the decoder, byte accesses, operand
and instruction fetch, the stack, interrupt entry and return, reset, and the instruction boundary. -/

namespace Sys2Proof.Machine

/-! ### Register writes: one setter per field that an operation writes -/

def State.setA (t : State) (v : Word) : State := { t with a := v }
def State.setX (t : State) (v : Word) : State := { t with x := v }
def State.setY (t : State) (v : Word) : State := { t with y := v }
def State.setS (t : State) (v : Word) : State := { t with s := v }
def State.setDP (t : State) (v : Word) : State := { t with dp := v }
def State.setPC (t : State) (v : Word) : State := { t with pc := v }
def State.setPBR (t : State) (v : Byte) : State := { t with pbr := v }
def State.setDBR (t : State) (v : Byte) : State := { t with dbr := v }
def State.setP (t : State) (f : Flags) : State := { t with p := f }
def State.setE (t : State) (b : Bool) : State := { t with e := b }
def State.setWai (t : State) (b : Bool) : State := { t with wai := b }
def State.setYieldReq (t : State) (b : Bool) : State := { t with yieldReq := b }
def State.setCycles (t : State) (n : Int) : State := { t with cycles := n }
def State.setLines (t : State) (l : Lines) : State := { t with lines := l }
def State.setBanks (t : State) (b : Latches) : State := { t with banks := b }
def State.setRam (t : State) (m : Memory) : State := { t with ram := m }
def State.setRom (t : State) (m : Memory) : State := { t with rom := m }
def State.setNvb (t : State) (b : Byte) : State := { t with nvb := b }
def State.setHost (t : State) (h : HostSide) : State := { t with host := h }

/-! ### Effective widths and the CPU mode -/

/-- `M8 = e or m` (10_state.md R39). -/
def State.m8 (t : State) : Bool := t.e || t.p.m

/-- `X8 = e or ex` (10_state.md R39). -/
def State.x8 (t : State) : Bool := t.e || t.p.ex

/-- `wM` (00_scope.md R11). -/
def State.wM (t : State) : Width := widthOf t.m8

/-- `wX` (00_scope.md R11). -/
def State.wX (t : State) : Width := widthOf t.x8

/-- The five CPU modes (10_state.md R45). -/
inductive CpuMode where
  /-- native, 8-bit index, 8-bit accumulator -/
  | x1m1
  /-- native, 8-bit index, 16-bit accumulator -/
  | x1m0
  /-- native, 16-bit index, 8-bit accumulator -/
  | x0m1
  /-- native, 16-bit index, 16-bit accumulator -/
  | x0m0
  /-- emulation -/
  | emul
  deriving DecidableEq, Repr

/-- `CpuMode(e, m, ex)` (10_state.md R45). It is computed where it is read, so it is never stale (10_state.md R46). -/
def cpuMode (e m ex : Bool) : CpuMode :=
  match e, ex, m with
  | true, _, _ => .emul
  | false, true, true => .x1m1
  | false, true, false => .x1m0
  | false, false, true => .x0m1
  | false, false, false => .x0m0

/-! ### Accumulator and index registers at their widths -/

/-- `M8 ? AL : A` (00_scope.md R11). -/
def State.acc (t : State) : Word := t.wM.trunc t.a

/-- An accumulator write at width wM: at 8 bits AL only, AH keeps its value (10_state.md R31). -/
def State.setAcc (t : State) (v : Word) : State :=
  match t.wM with
  | .w8 => t.setA (join (hi t.a) (lo v))
  | .w16 => t.setA v

/-- `X8 ? XL : X`. -/
def State.xVal (t : State) : Word := t.wX.trunc t.x

/-- `X8 ? YL : Y`. -/
def State.yVal (t : State) : Word := t.wX.trunc t.y

/-- An X write at width wX: at 8 bits the high byte is left 0 (10_state.md R32). -/
def State.putX (t : State) (v : Word) : State := t.setX (t.wX.trunc v)

/-- A Y write at width wX: at 8 bits the high byte is left 0 (10_state.md R32). -/
def State.putY (t : State) (v : Word) : State := t.setY (t.wX.trunc v)

/-- n and z from a result of the given width (43_alu.md R250). -/
def State.setNZ (t : State) (w : Width) (v : Word) : State := t.setP (Machine.setNZ w v t.p)

/-! ### The cycle counter -/

/-- A debit of `n` cycles (10_state.md R50). -/
def State.debit (t : State) (n : Nat) : State := t.setCycles (t.cycles - n)

/-! ### The memory decoder -/

/-- The address mask: 16 bits in default mode, 19 bits in extended mode (10_state.md R48, 20_memory.md R81). -/
def State.mask (t : State) : Addr := if t.banks.defMode then 0x00FFFF else 0x07FFFF

/-- An address lies in a window (00_scope.md R8: inclusive range of decoded addresses). -/
def inWindow (w : Window) (a : Addr) : Bool := decide (w.first ≤ a) && decide (a ≤ w.last)

/-- `(a' & ~7) == base`: an address lies in the 8-register window at `base` (20_memory.md R84, R86). -/
def inPorts (base a : Addr) : Bool := a &&& ~~~7 == base

/-- The value of a function-valued parameter: the table's entry for the arguments, or else the default. -/
def lookup {κ τ : Type} [DecidableEq κ] (table : Table κ τ) (default : τ) (k : κ) : τ :=
  match table with
  | [] => default
  | (key, v) :: rest => if key = k then v else lookup rest default k

/-- The default `PAGE_MAP(w, sel, a') = (sel << 14) | (a' & 0x3FFF)`, for both windows (20_memory.md R88, R89, 92 D16). -/
def defaultPage (sel : BitVec 3) (a : Addr) : BitVec 19 :=
  BitVec.ofNat 19 ((sel.toNat <<< 14) ||| (a.toNat &&& 0x3FFF))

/-- `PAGE_MAP(w, sel, a')`: the RAM byte index that a paged access reaches (00_scope.md R8, 20_memory.md R88, R89). -/
def pageMap (c : Params) (w : Paging) (sel : BitVec 3) (a : Addr) : Nat :=
  (lookup c.pageMap (defaultPage sel a) (w, sel, a)).toNat

/-- The ROM byte index `a' & (ROM_SIZE - 1)` (20_memory.md R90). -/
def romIndex (a : Addr) : Nat := a.toNat &&& (romSize - 1)

/-- A byte of one of the two memory arrays (10_state.md R53). -/
inductive Place where
  /-- RAM[i] -/
  | ram (i : Nat)
  /-- ROM[i] -/
  | rom (i : Nat)
  deriving DecidableEq, Repr

/-- What a read reaches. The banking-control window is not special for reads (20_memory.md R82, R87). -/
inductive ReadTarget where
  /-- register `reg` of the Tube window -/
  | tube (reg : BitVec 3)
  /-- a byte of memory -/
  | mem (p : Place)
  deriving DecidableEq, Repr

/-- What a write reaches (20_memory.md R83). -/
inductive WriteTarget where
  /-- register `reg` of the Tube window -/
  | tube (reg : BitVec 3)
  /-- register `k` of the banking-control window -/
  | bankctl (k : BitVec 3)
  /-- a byte of memory; a write to ROM is dropped -/
  | mem (p : Place)
  deriving DecidableEq, Repr

/-- The decode steps that reads and writes share, on a masked address: the low paging window, the high paging window,
ROM, linear RAM; the first match wins (20_memory.md R88 to R92). -/
def memPlace (t : State) (a : Addr) : Place :=
  if !t.banks.defMode && t.banks.banking.getLsbD t.cfg.lowBit && inWindow t.cfg.lowWin a then
    .ram (pageMap t.cfg .low (t.banks.banknum.extractLsb' 0 3) a)
  else if !t.banks.defMode && t.banks.banking.getLsbD t.cfg.highBit && inWindow t.cfg.highWin a then
    .ram (pageMap t.cfg .high (t.banks.banknum.extractLsb' 3 3) a)
  else if inWindow t.cfg.romWin a && (t.banks.defMode || t.banks.banking.getLsbD t.cfg.romBit) then
    .rom (romIndex a)
  else .ram a.toNat

/-- The decoder for a read of a 24-bit address (20_memory.md R82). -/
def readTarget (t : State) (a : Addr) : ReadTarget :=
  let a' := a &&& t.mask
  if inPorts t.cfg.tubeBase a' then .tube (a'.setWidth 3) else .mem (memPlace t a')

/-- The decoder for a write of a 24-bit address (20_memory.md R83). -/
def writeTarget (t : State) (a : Addr) : WriteTarget :=
  let a' := a &&& t.mask
  if inPorts t.cfg.tubeBase a' then .tube (a'.setWidth 3)
  else if inPorts t.cfg.bankctlBase a' then .bankctl (a'.setWidth 3)
  else .mem (memPlace t a')

/-- The byte of a memory array. -/
def State.at (t : State) : Place → Byte
  | .ram i => t.ram.read i
  | .rom i => t.rom.read i

/-- The byte the host answers to the next read of Tube register `reg`: the next one of its listed answers, and a free
value past their end (20_memory.md R84). -/
def tubeAnswer (h : HostSide) (reg : BitVec 3) : Byte :=
  match h.answers with
  | b :: _ => b
  | [] => Config.tubeFree h.reads reg

/-- The host's side after it answered a Tube read: `tube_parasite_read(reg)` was called once (60_exceptions.md R525). -/
def tubeAnswered (h : HostSide) (reg : BitVec 3) : HostSide :=
  { h with answers := h.answers.tail, reads := h.reads + 1, calls := .tubeRead reg (tubeAnswer h reg) :: h.calls }

/-- `tube_parasite_write(reg, v)` is called once (60_exceptions.md R524). -/
def tubeWritten (h : HostSide) (reg : BitVec 3) (v : Byte) : HostSide :=
  { h with calls := .tubeWrite reg v :: h.calls }

/-- The default `BANKCTL_WRITE(k, v)`: bits 2:1 of the register offset select the latch, bit 0 is shifted in, and the
data byte is ignored (20_memory.md R86, 92 D12). -/
def defaultBankctl (k : BitVec 3) (l : Latches) : Latches :=
  let b := k.getLsbD 0
  match k.extractLsb' 1 2 with
  | 0 => { l with defMode := b }
  | 1 => { l with divider := l.divider <<< 1 ||| if b then (1 : BitVec 4) else 0 }
  | 2 => { l with banking := l.banking <<< 1 ||| if b then (1 : BitVec 4) else 0 }
  | _ => { l with banknum := l.banknum <<< 1 ||| if b then (1 : BitVec 6) else 0 }

/-- `BANKCTL_WRITE(k, v)`: the latches after a write of byte `v` to register `k` of the banking-control window
(00_scope.md R8, 20_memory.md R86). -/
def bankctlWrite (c : Params) (k : BitVec 3) (v : Byte) (l : Latches) : Latches :=
  lookup c.bankctl (defaultBankctl k l) (k, v, l)

/-- The byte a read of address `a` returns (20_memory.md R82). -/
def peek (t : State) (a : Addr) : Byte :=
  match readTarget t a with
  | .tube reg => tubeAnswer t.host reg
  | .mem p => t.at p

/-- The state after a read of address `a`: one cycle is debited, and a Tube read is one call to the host
(20_memory.md R82, R84, R93). -/
def afterRead (t : State) (a : Addr) : State :=
  match readTarget t a with
  | .tube reg => (t.debit 1).setHost (tubeAnswered t.host reg)
  | .mem _ => t.debit 1

/-- `Read8(a)` (20_memory.md R82). -/
def read8 (a : Addr) (t : State) : Byte × State := (peek t a, afterRead t a)

/-- `Write8(a, v)` (20_memory.md R83): one cycle is debited; a Tube write calls the host and asks for the yield (R85); a
banking-control write changes the latches (R86); a write to ROM is dropped (R91). -/
def write8 (a : Addr) (v : Byte) (t : State) : State :=
  match writeTarget t a with
  | .tube reg => ((t.debit 1).setHost (tubeWritten t.host reg v)).setYieldReq true
  | .bankctl k => (t.debit 1).setBanks (bankctlWrite t.cfg k v t.banks)
  | .mem (.ram i) => (t.debit 1).setRam (t.ram.write i v)
  | .mem (.rom _) => t.debit 1

/-! ### Multi-byte accesses -/

/-- The address wrap class of an operand (20_memory.md R95). -/
inductive Wrap where
  /-- class D: further bytes stay in bank 0 and wrap at 16 bits -/
  | D
  /-- class L: further bytes are at the next 24-bit addresses -/
  | L
  deriving DecidableEq, Repr

/-- The address of byte `k > 0` of an operand at `a`: `Next_L` or `Next_D` (20_memory.md R95). -/
def nextAddr (cls : Wrap) (a : Addr) (k : Nat) : Addr :=
  match cls with
  | .L => a + BitVec.ofNat 24 k
  | .D => bank0 (offOf a + BitVec.ofNat 16 k)

/-- `MemRead(a, n, cls)` for a width of one or two bytes, low byte first (20_memory.md R95). -/
def memRead (w : Width) (cls : Wrap) (a : Addr) (t : State) : Word × State :=
  match w with
  | .w8 =>
    let l := read8 a t
    (zext l.1, l.2)
  | .w16 =>
    let l := read8 a t
    let h := read8 (nextAddr cls a 1) l.2
    (join h.1 l.1, h.2)

/-- `MemRead(a, 3, cls)`: a 24-bit pointer, bank byte last (20_memory.md R95). -/
def memRead24 (cls : Wrap) (a : Addr) (t : State) : Addr × State :=
  let l := read8 a t
  let h := read8 (nextAddr cls a 1) l.2
  let b := read8 (nextAddr cls a 2) h.2
  (addr b.1 (join h.1 l.1), b.2)

/-- `MemWrite(a, n, v, cls)`, low byte first (20_memory.md R96). -/
def memWrite (w : Width) (cls : Wrap) (a : Addr) (v : Word) (t : State) : State :=
  match w with
  | .w8 => write8 a (lo v) t
  | .w16 => write8 (nextAddr cls a 1) (hi v) (write8 a (lo v) t)

/-- Two bytes of one bank, the second at `bank:(off +16 1)`: a vector or a jump pointer (40_addressing.md R183, R184,
60_exceptions.md R509, 92 D37). -/
def readPointer (bank : Byte) (off : Word) (t : State) : Word × State :=
  let l := read8 (addr bank off) t
  let h := read8 (addr bank (off + 1)) l.2
  (join h.1 l.1, h.2)

/-! ### Instruction fetch -/

/-- `Fetch8()` (40_addressing.md R160): the byte at PBR:PC; PC moves on within the bank. -/
def fetch8 (t : State) : Byte × State :=
  let v := read8 (addr t.pbr t.pc) t
  (v.1, v.2.setPC (t.pc + 1))

/-- `n` bytes of the instruction stream, in address order (40_addressing.md R160, 30_encoding.md R130). -/
def fetchBytes : Nat → State → List Byte × State
  | 0, t => ([], t)
  | n + 1, t =>
    let v := fetch8 t
    let vs := fetchBytes n v.2
    (v.1 :: vs.1, vs.2)

/-! ### The stack -/

/-- The stack pointer after a push: in emulation mode it wraps within page 1 (46_stack.md R350). -/
def stackDown (e : Bool) (s : Word) : Word := if e then join 1 (lo s - 1) else s - 1

/-- The stack pointer after a pull: in emulation mode it wraps within page 1 (46_stack.md R351). -/
def stackUp (e : Bool) (s : Word) : Word := if e then join 1 (lo s + 1) else s + 1

/-- `Push8(v)` (46_stack.md R350). -/
def push8 (v : Byte) (t : State) : State :=
  (write8 (bank0 t.s) v t).setS (stackDown t.e t.s)

/-- `Pull8()` (46_stack.md R351). -/
def pull8 (t : State) : Byte × State :=
  let s := stackUp t.e t.s
  read8 (bank0 s) (t.setS s)

/-- `Push16(v)`: the high byte first (46_stack.md R352). -/
def push16 (v : Word) (t : State) : State := push8 (lo v) (push8 (hi v) t)

/-- `Pull16()`: the low byte first (46_stack.md R353). -/
def pull16 (t : State) : Word × State :=
  let l := pull8 t
  let h := pull8 l.2
  (join h.1 l.1, h.2)

/-- `Push8` or `Push16` by a width (46_stack.md R354 to R356). -/
def push (w : Width) (v : Word) (t : State) : State :=
  match w with
  | .w8 => push8 (lo v) t
  | .w16 => push16 v t

/-- `Pull8` or `Pull16` by a width (46_stack.md R361 to R363). -/
def pull (w : Width) (t : State) : Word × State :=
  match w with
  | .w8 =>
    let v := pull8 t
    (zext v.1, v.2)
  | .w16 => pull16 t

/-! ### The status byte as an instruction reads and writes it -/

/-- XH <- 0 and YH <- 0 (10_state.md R40). -/
def State.clearIndexHigh (t : State) : State := (t.setX (zext (lo t.x))).setY (zext (lo t.y))

/-- `UnpackN(p)`: all eight flags; a set ex zeroes XH and YH at once (10_state.md R43). -/
def State.unpackN (t : State) (p : Byte) : State :=
  if (flagsN p).ex then (t.setP (flagsN p)).clearIndexHigh else t.setP (flagsN p)

/-- `UnpackE(p)` (10_state.md R44). -/
def State.unpackE (t : State) (p : Byte) : State := t.setP (flagsE p)

/-- The unpacking that the current e selects (46_stack.md R365, 47_flags_mode_system.md R403). -/
def State.unpack (t : State) (p : Byte) : State := if t.e then t.unpackE p else t.unpackN p

/-- The packed status byte that the current e selects, with the break bit its caller supplies (10_state.md R41, R42). -/
def State.pack (t : State) (brk : Bool) : Byte := if t.e then packE brk t.p else packN t.p

/-! ### Interrupt entry and return -/

/-- The events that end in the interrupt entry sequence (60_exceptions.md R501, R510). -/
inductive Event where
  /-- non-maskable interrupt -/
  | nmi
  /-- interrupt request -/
  | irq
  /-- the BRK instruction -/
  | brk
  /-- the COP instruction -/
  | cop
  deriving DecidableEq, Repr

/-- The native vector's offset, in bank NVB (60_exceptions.md R509). -/
def vectorNative : Event → Word
  | .cop => 0xFFE4
  | .brk => 0xFFE6
  | .nmi => 0xFFEA
  | .irq => 0xFFEE

/-- The emulation vector's offset, in bank 0; BRK shares the IRQ vector (60_exceptions.md R509). -/
def vectorEmul : Event → Word
  | .cop => 0xFFF4
  | .nmi => 0xFFFA
  | .brk => 0xFFFE
  | .irq => 0xFFFE

/-- The break bit an event pushes in emulation mode: 1 for BRK and COP (60_exceptions.md R501, R510). -/
def Event.breakBit : Event → Bool
  | .brk => true
  | .cop => true
  | .nmi => false
  | .irq => false

/-- The frame an event pushes: in native mode PBR, PC and P, four bytes; in emulation mode PC and P, three
(60_exceptions.md R510). -/
def pushFrame (k : Event) (t : State) : State :=
  if t.e then
    push8 (packE k.breakBit t.p) (push16 t.pc t)
  else
    push8 (packN t.p) (push16 t.pc (push8 t.pbr t))

/-- `Interrupt(kind)`, the entry sequence shared by NMI, IRQ, BRK and COP (60_exceptions.md R510). -/
def interrupt (k : Event) (t : State) : State :=
  let bank := if t.e then 0 else t.nvb
  let off := if t.e then vectorEmul k else vectorNative k
  let entered := (((pushFrame k t).setP { t.p with i := true, d := false }).setPBR 0).setWai false
  let target := readPointer bank off entered
  target.2.setPC target.1

/-- RTI's sequence: P, then PC, then in native mode PBR (47_flags_mode_system.md R403). -/
def returnFromInterrupt (t : State) : State :=
  let p := pull8 t
  let target := pull16 (p.2.unpack p.1)
  let back := target.2.setPC target.1
  if t.e then back
  else
    let b := pull8 back
    b.2.setPBR b.1

/-! ### Reset and init -/

/-- The registers, flags and latches as `Reset()` leaves them before it reads the vector (70_reset_and_hazards.md R601).
RAM, ROM, NVB, IRQ_BIT and NMI_BIT keep their values (R602). -/
def resetRegisters (t : State) : State :=
  { t with
    banks := { defMode := true, divider := 0, banking := 0, banknum := 0 }
    e := true
    p := { c := false, z := false, i := true, d := false, v := false, n := false, m := true, ex := true }
    a := 0, x := 0, y := 0, s := 0x01FF, dp := 0, pbr := 0, dbr := 0
    wai := false, yieldReq := false
    lines := { t.lines with reset := false } }

/-- `Reset()`: the latches are reset before the vector is read, and the cycle counter is cleared after
(70_reset_and_hazards.md R601). -/
def doReset (t : State) : State :=
  let vector := readPointer 0 0xFFFC (resetRegisters t)
  (vector.2.setPC vector.1).setCycles 0

/-- `init(rom_image, native_vector_bank)` (70_reset_and_hazards.md R600). RAM is not cleared. -/
def doInit (rom : Memory) (nvb : Byte) (t : State) : State := doReset ((t.setRom rom).setNvb nvb)

/-! ### The instruction boundary -/

/-- The input bits as the host has set them by this boundary (60_exceptions.md R520): the next entry of its plan; past
the plan's end the bits stay as they are. -/
def sampleLines (t : State) : State :=
  match t.host.inputs with
  | [] => t
  | l :: rest => (t.setLines l).setHost { t.host with inputs := rest }

/-- `nmi_ack()`: called once per NMI taken; it clears NMI_BIT (60_exceptions.md R526). -/
def nmiAck (t : State) : State :=
  (t.setLines { t.lines with nmi := false }).setHost { t.host with calls := .nmiAck :: t.host.calls }

/-- The event taken at a boundary, by priority RESET, NMI, IRQ; at most one (60_exceptions.md R505, R508). -/
def takeEvent (t : State) : State :=
  if t.lines.reset then doReset t
  else if t.lines.nmi then interrupt .nmi (nmiAck t)
  else if t.lines.irq && !t.p.i then interrupt .irq t
  else t

/-- `Boundary()`: the input bits are sampled here and nowhere else (60_exceptions.md R505). -/
def boundary (t : State) : State := takeEvent (sampleLines t)

/-- The yield test of the run loop: the request is cleared and the rest of the budget is forfeit
(60_exceptions.md R504). -/
def yieldCheck (t : State) : State :=
  if t.yieldReq then (t.setYieldReq false).setCycles (min t.cycles 0) else t

/-- What one iteration of the run loop does after the instruction or the idle debit: the boundary, then the yield test
(60_exceptions.md R502). -/
def endIteration (t : State) : State := yieldCheck (boundary t)

/-- An idle iteration while waiting: no fetch, PC held (60_exceptions.md R514). -/
def idle (t : State) : State := endIteration (t.debit t.cfg.waiIdleCycles)

end Sys2Proof.Machine
end

