-- ==== Sys2Proof/Syntax.lean ====
section
/-! DEFINITION. Syntax.lean: the instruction set, one constructor per row of spec/opcode_table.json (spec/30_encoding.md
R131, R136): first the rows with an operand field, then the rows without one, each in the table's order. A field is an
operand field of the encoding, unscaled. -/

namespace Sys2Proof

/-- An immediate operand as it was fetched: one byte, or two (30_encoding.md R132, R133). -/
inductive Imm where
  /-- an 8-bit immediate -/
  | byte (v : Byte)
  /-- a 16-bit immediate -/
  | word (v : Word)
  deriving DecidableEq, Repr

/-- The value of an immediate. It is never sign-extended (30_encoding.md R133). -/
def Imm.value : Imm → Word
  | .byte v => v.setWidth 16
  | .word v => v

/-- An instruction. -/
inductive Instr where
  /-- 00: BRK #k -/
  | brk (k : Byte)
  /-- 01: ORA (d,X) -/
  | oraDpXInd (d : Byte)
  /-- 02: COP #k -/
  | cop (k : Byte)
  /-- 03: ORA d,S -/
  | oraSr (d : Byte)
  /-- 04: TSB d -/
  | tsbDp (d : Byte)
  /-- 05: ORA d -/
  | oraDp (d : Byte)
  /-- 06: ASL d -/
  | aslDp (d : Byte)
  /-- 07: ORA [d] -/
  | oraDpIndL (d : Byte)
  /-- 09: ORA #m -/
  | oraImm (v : Imm)
  /-- 0C: TSB a -/
  | tsbAbs (w : Word)
  /-- 0D: ORA a -/
  | oraAbs (w : Word)
  /-- 0E: ASL a -/
  | aslAbs (w : Word)
  /-- 0F: ORA al -/
  | oraAbsL (l : Addr)
  /-- 10: BPL r -/
  | bpl (r : Byte)
  /-- 11: ORA (d),Y -/
  | oraDpIndY (d : Byte)
  /-- 12: ORA (d) -/
  | oraDpInd (d : Byte)
  /-- 13: ORA (d,S),Y -/
  | oraSrIndY (d : Byte)
  /-- 14: TRB d -/
  | trbDp (d : Byte)
  /-- 15: ORA d,X -/
  | oraDpX (d : Byte)
  /-- 16: ASL d,X -/
  | aslDpX (d : Byte)
  /-- 17: ORA [d],Y -/
  | oraDpIndLY (d : Byte)
  /-- 19: ORA a,Y -/
  | oraAbsY (w : Word)
  /-- 1C: TRB a -/
  | trbAbs (w : Word)
  /-- 1D: ORA a,X -/
  | oraAbsX (w : Word)
  /-- 1E: ASL a,X -/
  | aslAbsX (w : Word)
  /-- 1F: ORA al,X -/
  | oraAbsLX (l : Addr)
  /-- 20: JSR a -/
  | jsrAbs (w : Word)
  /-- 21: AND (d,X) -/
  | andDpXInd (d : Byte)
  /-- 22: JSL al -/
  | jsl (l : Addr)
  /-- 23: AND d,S -/
  | andSr (d : Byte)
  /-- 24: BIT d -/
  | bitDp (d : Byte)
  /-- 25: AND d -/
  | andDp (d : Byte)
  /-- 26: ROL d -/
  | rolDp (d : Byte)
  /-- 27: AND [d] -/
  | andDpIndL (d : Byte)
  /-- 29: AND #m -/
  | andImm (v : Imm)
  /-- 2C: BIT a -/
  | bitAbs (w : Word)
  /-- 2D: AND a -/
  | andAbs (w : Word)
  /-- 2E: ROL a -/
  | rolAbs (w : Word)
  /-- 2F: AND al -/
  | andAbsL (l : Addr)
  /-- 30: BMI r -/
  | bmi (r : Byte)
  /-- 31: AND (d),Y -/
  | andDpIndY (d : Byte)
  /-- 32: AND (d) -/
  | andDpInd (d : Byte)
  /-- 33: AND (d,S),Y -/
  | andSrIndY (d : Byte)
  /-- 34: BIT d,X -/
  | bitDpX (d : Byte)
  /-- 35: AND d,X -/
  | andDpX (d : Byte)
  /-- 36: ROL d,X -/
  | rolDpX (d : Byte)
  /-- 37: AND [d],Y -/
  | andDpIndLY (d : Byte)
  /-- 39: AND a,Y -/
  | andAbsY (w : Word)
  /-- 3C: BIT a,X -/
  | bitAbsX (w : Word)
  /-- 3D: AND a,X -/
  | andAbsX (w : Word)
  /-- 3E: ROL a,X -/
  | rolAbsX (w : Word)
  /-- 3F: AND al,X -/
  | andAbsLX (l : Addr)
  /-- 41: EOR (d,X) -/
  | eorDpXInd (d : Byte)
  /-- 42: WDM #k -/
  | wdm (k : Byte)
  /-- 43: EOR d,S -/
  | eorSr (d : Byte)
  /-- 44: MVP xyc -/
  | mvp (dst : Byte) (src : Byte)
  /-- 45: EOR d -/
  | eorDp (d : Byte)
  /-- 46: LSR d -/
  | lsrDp (d : Byte)
  /-- 47: EOR [d] -/
  | eorDpIndL (d : Byte)
  /-- 49: EOR #m -/
  | eorImm (v : Imm)
  /-- 4C: JMP a -/
  | jmpAbs (w : Word)
  /-- 4D: EOR a -/
  | eorAbs (w : Word)
  /-- 4E: LSR a -/
  | lsrAbs (w : Word)
  /-- 4F: EOR al -/
  | eorAbsL (l : Addr)
  /-- 50: BVC r -/
  | bvc (r : Byte)
  /-- 51: EOR (d),Y -/
  | eorDpIndY (d : Byte)
  /-- 52: EOR (d) -/
  | eorDpInd (d : Byte)
  /-- 53: EOR (d,S),Y -/
  | eorSrIndY (d : Byte)
  /-- 54: MVN xyc -/
  | mvn (dst : Byte) (src : Byte)
  /-- 55: EOR d,X -/
  | eorDpX (d : Byte)
  /-- 56: LSR d,X -/
  | lsrDpX (d : Byte)
  /-- 57: EOR [d],Y -/
  | eorDpIndLY (d : Byte)
  /-- 59: EOR a,Y -/
  | eorAbsY (w : Word)
  /-- 5C: JML al -/
  | jmlLong (l : Addr)
  /-- 5D: EOR a,X -/
  | eorAbsX (w : Word)
  /-- 5E: LSR a,X -/
  | lsrAbsX (w : Word)
  /-- 5F: EOR al,X -/
  | eorAbsLX (l : Addr)
  /-- 61: ADC (d,X) -/
  | adcDpXInd (d : Byte)
  /-- 62: PER rl -/
  | per (r : Word)
  /-- 63: ADC d,S -/
  | adcSr (d : Byte)
  /-- 64: STZ d -/
  | stzDp (d : Byte)
  /-- 65: ADC d -/
  | adcDp (d : Byte)
  /-- 66: ROR d -/
  | rorDp (d : Byte)
  /-- 67: ADC [d] -/
  | adcDpIndL (d : Byte)
  /-- 69: ADC #m -/
  | adcImm (v : Imm)
  /-- 6C: JMP (a) -/
  | jmpInd (p : Word)
  /-- 6D: ADC a -/
  | adcAbs (w : Word)
  /-- 6E: ROR a -/
  | rorAbs (w : Word)
  /-- 6F: ADC al -/
  | adcAbsL (l : Addr)
  /-- 70: BVS r -/
  | bvs (r : Byte)
  /-- 71: ADC (d),Y -/
  | adcDpIndY (d : Byte)
  /-- 72: ADC (d) -/
  | adcDpInd (d : Byte)
  /-- 73: ADC (d,S),Y -/
  | adcSrIndY (d : Byte)
  /-- 74: STZ d,X -/
  | stzDpX (d : Byte)
  /-- 75: ADC d,X -/
  | adcDpX (d : Byte)
  /-- 76: ROR d,X -/
  | rorDpX (d : Byte)
  /-- 77: ADC [d],Y -/
  | adcDpIndLY (d : Byte)
  /-- 79: ADC a,Y -/
  | adcAbsY (w : Word)
  /-- 7C: JMP (a,X) -/
  | jmpXInd (p : Word)
  /-- 7D: ADC a,X -/
  | adcAbsX (w : Word)
  /-- 7E: ROR a,X -/
  | rorAbsX (w : Word)
  /-- 7F: ADC al,X -/
  | adcAbsLX (l : Addr)
  /-- 80: BRA r -/
  | bra (r : Byte)
  /-- 81: STA (d,X) -/
  | staDpXInd (d : Byte)
  /-- 82: BRL rl -/
  | brl (r : Word)
  /-- 83: STA d,S -/
  | staSr (d : Byte)
  /-- 84: STY d -/
  | styDp (d : Byte)
  /-- 85: STA d -/
  | staDp (d : Byte)
  /-- 86: STX d -/
  | stxDp (d : Byte)
  /-- 87: STA [d] -/
  | staDpIndL (d : Byte)
  /-- 89: BIT #m -/
  | bitImm (v : Imm)
  /-- 8C: STY a -/
  | styAbs (w : Word)
  /-- 8D: STA a -/
  | staAbs (w : Word)
  /-- 8E: STX a -/
  | stxAbs (w : Word)
  /-- 8F: STA al -/
  | staAbsL (l : Addr)
  /-- 90: BCC r -/
  | bcc (r : Byte)
  /-- 91: STA (d),Y -/
  | staDpIndY (d : Byte)
  /-- 92: STA (d) -/
  | staDpInd (d : Byte)
  /-- 93: STA (d,S),Y -/
  | staSrIndY (d : Byte)
  /-- 94: STY d,X -/
  | styDpX (d : Byte)
  /-- 95: STA d,X -/
  | staDpX (d : Byte)
  /-- 96: STX d,Y -/
  | stxDpY (d : Byte)
  /-- 97: STA [d],Y -/
  | staDpIndLY (d : Byte)
  /-- 99: STA a,Y -/
  | staAbsY (w : Word)
  /-- 9C: STZ a -/
  | stzAbs (w : Word)
  /-- 9D: STA a,X -/
  | staAbsX (w : Word)
  /-- 9E: STZ a,X -/
  | stzAbsX (w : Word)
  /-- 9F: STA al,X -/
  | staAbsLX (l : Addr)
  /-- A0: LDY #x -/
  | ldyImm (v : Imm)
  /-- A1: LDA (d,X) -/
  | ldaDpXInd (d : Byte)
  /-- A2: LDX #x -/
  | ldxImm (v : Imm)
  /-- A3: LDA d,S -/
  | ldaSr (d : Byte)
  /-- A4: LDY d -/
  | ldyDp (d : Byte)
  /-- A5: LDA d -/
  | ldaDp (d : Byte)
  /-- A6: LDX d -/
  | ldxDp (d : Byte)
  /-- A7: LDA [d] -/
  | ldaDpIndL (d : Byte)
  /-- A9: LDA #m -/
  | ldaImm (v : Imm)
  /-- AC: LDY a -/
  | ldyAbs (w : Word)
  /-- AD: LDA a -/
  | ldaAbs (w : Word)
  /-- AE: LDX a -/
  | ldxAbs (w : Word)
  /-- AF: LDA al -/
  | ldaAbsL (l : Addr)
  /-- B0: BCS r -/
  | bcs (r : Byte)
  /-- B1: LDA (d),Y -/
  | ldaDpIndY (d : Byte)
  /-- B2: LDA (d) -/
  | ldaDpInd (d : Byte)
  /-- B3: LDA (d,S),Y -/
  | ldaSrIndY (d : Byte)
  /-- B4: LDY d,X -/
  | ldyDpX (d : Byte)
  /-- B5: LDA d,X -/
  | ldaDpX (d : Byte)
  /-- B6: LDX d,Y -/
  | ldxDpY (d : Byte)
  /-- B7: LDA [d],Y -/
  | ldaDpIndLY (d : Byte)
  /-- B9: LDA a,Y -/
  | ldaAbsY (w : Word)
  /-- BC: LDY a,X -/
  | ldyAbsX (w : Word)
  /-- BD: LDA a,X -/
  | ldaAbsX (w : Word)
  /-- BE: LDX a,Y -/
  | ldxAbsY (w : Word)
  /-- BF: LDA al,X -/
  | ldaAbsLX (l : Addr)
  /-- C0: CPY #x -/
  | cpyImm (v : Imm)
  /-- C1: CMP (d,X) -/
  | cmpDpXInd (d : Byte)
  /-- C2: REP #k -/
  | rep (k : Byte)
  /-- C3: CMP d,S -/
  | cmpSr (d : Byte)
  /-- C4: CPY d -/
  | cpyDp (d : Byte)
  /-- C5: CMP d -/
  | cmpDp (d : Byte)
  /-- C6: DEC d -/
  | decDp (d : Byte)
  /-- C7: CMP [d] -/
  | cmpDpIndL (d : Byte)
  /-- C9: CMP #m -/
  | cmpImm (v : Imm)
  /-- CC: CPY a -/
  | cpyAbs (w : Word)
  /-- CD: CMP a -/
  | cmpAbs (w : Word)
  /-- CE: DEC a -/
  | decAbs (w : Word)
  /-- CF: CMP al -/
  | cmpAbsL (l : Addr)
  /-- D0: BNE r -/
  | bne (r : Byte)
  /-- D1: CMP (d),Y -/
  | cmpDpIndY (d : Byte)
  /-- D2: CMP (d) -/
  | cmpDpInd (d : Byte)
  /-- D3: CMP (d,S),Y -/
  | cmpSrIndY (d : Byte)
  /-- D4: PEI d -/
  | pei (d : Byte)
  /-- D5: CMP d,X -/
  | cmpDpX (d : Byte)
  /-- D6: DEC d,X -/
  | decDpX (d : Byte)
  /-- D7: CMP [d],Y -/
  | cmpDpIndLY (d : Byte)
  /-- D9: CMP a,Y -/
  | cmpAbsY (w : Word)
  /-- DC: JML [a] -/
  | jmlInd (p : Word)
  /-- DD: CMP a,X -/
  | cmpAbsX (w : Word)
  /-- DE: DEC a,X -/
  | decAbsX (w : Word)
  /-- DF: CMP al,X -/
  | cmpAbsLX (l : Addr)
  /-- E0: CPX #x -/
  | cpxImm (v : Imm)
  /-- E1: SBC (d,X) -/
  | sbcDpXInd (d : Byte)
  /-- E2: SEP #k -/
  | sep (k : Byte)
  /-- E3: SBC d,S -/
  | sbcSr (d : Byte)
  /-- E4: CPX d -/
  | cpxDp (d : Byte)
  /-- E5: SBC d -/
  | sbcDp (d : Byte)
  /-- E6: INC d -/
  | incDp (d : Byte)
  /-- E7: SBC [d] -/
  | sbcDpIndL (d : Byte)
  /-- E9: SBC #m -/
  | sbcImm (v : Imm)
  /-- EC: CPX a -/
  | cpxAbs (w : Word)
  /-- ED: SBC a -/
  | sbcAbs (w : Word)
  /-- EE: INC a -/
  | incAbs (w : Word)
  /-- EF: SBC al -/
  | sbcAbsL (l : Addr)
  /-- F0: BEQ r -/
  | beq (r : Byte)
  /-- F1: SBC (d),Y -/
  | sbcDpIndY (d : Byte)
  /-- F2: SBC (d) -/
  | sbcDpInd (d : Byte)
  /-- F3: SBC (d,S),Y -/
  | sbcSrIndY (d : Byte)
  /-- F4: PEA #16 -/
  | pea (w : Word)
  /-- F5: SBC d,X -/
  | sbcDpX (d : Byte)
  /-- F6: INC d,X -/
  | incDpX (d : Byte)
  /-- F7: SBC [d],Y -/
  | sbcDpIndLY (d : Byte)
  /-- F9: SBC a,Y -/
  | sbcAbsY (w : Word)
  /-- FC: JSR (a,X) -/
  | jsrXInd (p : Word)
  /-- FD: SBC a,X -/
  | sbcAbsX (w : Word)
  /-- FE: INC a,X -/
  | incAbsX (w : Word)
  /-- FF: SBC al,X -/
  | sbcAbsLX (l : Addr)
  /-- 08: PHP -/
  | php
  /-- 0A: ASL A -/
  | aslAcc
  /-- 0B: PHD -/
  | phd
  /-- 18: CLC -/
  | clc
  /-- 1A: INC A -/
  | incAcc
  /-- 1B: TCS -/
  | tcs
  /-- 28: PLP -/
  | plp
  /-- 2A: ROL A -/
  | rolAcc
  /-- 2B: PLD -/
  | pld
  /-- 38: SEC -/
  | sec
  /-- 3A: DEC A -/
  | decAcc
  /-- 3B: TSC -/
  | tsc
  /-- 40: RTI -/
  | rti
  /-- 48: PHA -/
  | pha
  /-- 4A: LSR A -/
  | lsrAcc
  /-- 4B: PHK -/
  | phk
  /-- 58: CLI -/
  | cli
  /-- 5A: PHY -/
  | phy
  /-- 5B: TCD -/
  | tcd
  /-- 60: RTS -/
  | rts
  /-- 68: PLA -/
  | pla
  /-- 6A: ROR A -/
  | rorAcc
  /-- 6B: RTL -/
  | rtl
  /-- 78: SEI -/
  | sei
  /-- 7A: PLY -/
  | ply
  /-- 7B: TDC -/
  | tdc
  /-- 88: DEY -/
  | dey
  /-- 8A: TXA -/
  | txa
  /-- 8B: PHB -/
  | phb
  /-- 98: TYA -/
  | tya
  /-- 9A: TXS -/
  | txs
  /-- 9B: TXY -/
  | txy
  /-- A8: TAY -/
  | tay
  /-- AA: TAX -/
  | tax
  /-- AB: PLB -/
  | plb
  /-- B8: CLV -/
  | clv
  /-- BA: TSX -/
  | tsx
  /-- BB: TYX -/
  | tyx
  /-- C8: INY -/
  | iny
  /-- CA: DEX -/
  | dex
  /-- CB: WAI -/
  | wai
  /-- D8: CLD -/
  | cld
  /-- DA: PHX -/
  | phx
  /-- DB: STP -/
  | stp
  /-- E8: INX -/
  | inx
  /-- EA: NOP -/
  | nop
  /-- EB: XBA -/
  | xba
  /-- F8: SED -/
  | sed
  /-- FA: PLX -/
  | plx
  /-- FB: XCE -/
  | xce
  deriving DecidableEq, Repr

end Sys2Proof
end

