-- ==== Sys2Proof/Machine/Operands.lean ====
section
/-! DEFINITION. Machine/Operands.lean: the addressing-mode resolvers and the operand access helpers
(spec/40_addressing.md). Operand fields have been fetched when an instruction runs (R160), so a resolver takes them as
values; what it adds is the effective address, its pointer reads and its extra cycles. -/

namespace Sys2Proof.Machine

/-- The addressing modes of a data operand in memory, with their operand fields (30_encoding.md R131). -/
inductive AddrMode where
  /-- `d` -/
  | dp (d : Byte)
  /-- `d,X` -/
  | dpX (d : Byte)
  /-- `d,Y` -/
  | dpY (d : Byte)
  /-- `(d)` -/
  | dpInd (d : Byte)
  /-- `[d]` -/
  | dpIndL (d : Byte)
  /-- `(d,X)` -/
  | dpXInd (d : Byte)
  /-- `(d),Y` -/
  | dpIndY (d : Byte)
  /-- `[d],Y` -/
  | dpIndLY (d : Byte)
  /-- `d,S` -/
  | sr (d : Byte)
  /-- `(d,S),Y` -/
  | srIndY (d : Byte)
  /-- `a` -/
  | abs (w : Word)
  /-- `a,X` -/
  | absX (w : Word)
  /-- `a,Y` -/
  | absY (w : Word)
  /-- `al` -/
  | absL (l : Addr)
  /-- `al,X` -/
  | absLX (l : Addr)
  deriving DecidableEq, Repr

/-- A source operand: an immediate, or a place in memory. -/
inductive Operand where
  /-- an immediate operand (40_addressing.md R164) -/
  | imm (v : Imm)
  /-- an operand in memory -/
  | mem (m : AddrMode)
  deriving DecidableEq, Repr

/-- An effective address and its wrap class: what a resolver returns (40_addressing.md, head of the file). -/
structure Ref where
  /-- the 24-bit effective address -/
  ea : Addr
  /-- the wrap class of its further bytes -/
  cls : Wrap
  deriving DecidableEq, Repr

/-! ### Direct-page sums -/

/-- `DP +16 d` (40_addressing.md R166). -/
def dpSum (t : State) (d : Byte) : Word := t.dp + zext d

/-- The direct-page sum with an index: an 8-bit addition in emulation mode (40_addressing.md R167, R175). -/
def dpIndexed (t : State) (d : Byte) (r : Word) : Word :=
  if t.e then t.dp + zext (d + lo r) else t.dp + zext d + r

/-- `S +16 d`, in both modes (40_addressing.md R168). -/
def srSum (t : State) (d : Byte) : Word := t.s + zext d

/-! ### Extra cycles -/

/-- One extra cycle in a mode that adds DP, if DP's low byte is not 0 (70_reset_and_hazards.md R621). -/
def dpCharge (t : State) : State := if lo t.dp = 0 then t else t.debit 1

/-- One extra cycle in `a,X` and `a,Y`, by the stored ex or on a page crossing (70_reset_and_hazards.md R622). -/
def indexCharge (w r : Word) (t : State) : State :=
  if !t.p.ex || hi w != hi (w + r) then t.debit 1 else t

/-! ### Resolvers -/

/-- The pointer of `(d),Y`: in emulation mode, operand byte FFH reads its two bytes at DP+FFH and at DP
(40_addressing.md R176). -/
def indirectYPointer (d : Byte) (t : State) : Word × State :=
  if t.e && d == 0xFF then
    let l := read8 (bank0 (t.dp + 0x00FF)) t
    let h := read8 (bank0 t.dp) l.2
    (join h.1 l.1, h.2)
  else memRead .w16 .D (bank0 (dpSum t d)) t

/-- `Resolve(mode)` (40_addressing.md R166 to R178). -/
def resolve (m : AddrMode) (t : State) : Ref × State :=
  match m with
  | .dp d => (⟨bank0 (dpSum t d), .D⟩, dpCharge t)
  | .dpX d => (⟨bank0 (dpIndexed t d t.x), .D⟩, dpCharge t)
  | .dpY d => (⟨bank0 (dpIndexed t d t.y), .D⟩, dpCharge t)
  | .dpInd d =>
    let ptr := memRead .w16 .D (bank0 (dpSum t d)) (dpCharge t)
    (⟨addr t.dbr ptr.1, .L⟩, ptr.2)
  | .dpIndL d =>
    let ptr := memRead24 .D (bank0 (dpSum t d)) (dpCharge t)
    (⟨ptr.1, .L⟩, ptr.2)
  | .dpXInd d =>
    let ptr := memRead .w16 .D (bank0 (dpIndexed t d t.x)) (dpCharge t)
    (⟨addr t.dbr ptr.1, .L⟩, ptr.2)
  | .dpIndY d =>
    let ptr := indirectYPointer d (dpCharge t)
    (⟨addr t.dbr ptr.1 + wide t.y, .L⟩, ptr.2)
  | .dpIndLY d =>
    let ptr := memRead24 .D (bank0 (dpSum t d)) (dpCharge t)
    (⟨ptr.1 + wide t.y, .L⟩, ptr.2)
  | .sr d => (⟨bank0 (srSum t d), .D⟩, t)
  | .srIndY d =>
    let ptr := memRead .w16 .D (bank0 (srSum t d)) t
    (⟨addr t.dbr ptr.1 + wide t.y, .L⟩, ptr.2)
  | .abs w => (⟨addr t.dbr w, .L⟩, t)
  | .absX w => (⟨addr t.dbr (w + t.x), .L⟩, indexCharge w t.x t)
  | .absY w => (⟨addr t.dbr (w + t.y), .L⟩, indexCharge w t.y t)
  | .absL l => (⟨l, .L⟩, t)
  | .absLX l => (⟨l + wide t.x, .L⟩, t)

/-! ### Operand access -/

/-- `LoadOp(mode, w)` (40_addressing.md R163). An immediate has been fetched at its width (R164). -/
def loadOp (o : Operand) (w : Width) (t : State) : Word × State :=
  match o with
  | .imm v => (w.trunc v.value, t)
  | .mem m =>
    let r := resolve m t
    memRead w r.1.cls r.1.ea r.2

/-- `StoreOp(mode, w, v)` (40_addressing.md R163). -/
def storeOp (m : AddrMode) (w : Width) (v : Word) (t : State) : State :=
  let r := resolve m t
  memWrite w r.1.cls r.1.ea v r.2

/-- A memory read-modify-write: the address is resolved once, the read completes before the write, and one extra cycle
is charged (44_rmw.md R290, 70_reset_and_hazards.md R623). -/
def rmwMem (f : Width → Word → Flags → Word × Flags) (m : AddrMode) (t : State) : State :=
  let r := resolve m t
  let v := memRead t.wM r.1.cls r.1.ea r.2
  let new := f t.wM v.1 t.p
  memWrite t.wM r.1.cls r.1.ea new.1 ((v.2.debit 1).setP new.2)

/-- The accumulator form of a read-modify-write: AH is kept under M8 (44_rmw.md R290). -/
def rmwAcc (f : Width → Word → Flags → Word × Flags) (t : State) : State :=
  let new := f t.wM t.acc t.p
  (t.setAcc new.1).setP new.2

end Sys2Proof.Machine
end

