-- ==== Sys2Proof/Machine/Alu.lean ====
section
/-! DEFINITION. Machine/Alu.lean: arithmetic, logic and compare (spec/43_alu.md): one meaning per
constructor, over shared operations. A meaning runs with PC past the instruction's bytes (spec/10_state.md R35). -/

namespace Sys2Proof.Machine

/-- One extra cycle of ADC and SBC in decimal mode (70_reset_and_hazards.md R622). -/
def decimalCharge (t : State) : State := if t.p.d then t.debit 1 else t

/-- The result and flags of an addition or subtraction: n and z from the result (43_alu.md R257, R258). -/
def putSum (r : AluResult) (t : State) : State :=
  (t.setAcc r.res).setP { Machine.setNZ t.wM r.res t.p with c := r.c, v := r.v }

/-- ADC: add with carry, binary or decimal (43_alu.md R257). -/
def adc (o : Operand) (t : State) : State :=
  let v := loadOp o t.wM t
  putSum ((if t.p.d then addDec else addBin) t.wM t.acc v.1 t.p.c) (decimalCharge v.2)

/-- SBC: subtract with borrow, binary or decimal (43_alu.md R258). -/
def sbc (o : Operand) (t : State) : State :=
  let v := loadOp o t.wM t
  putSum ((if t.p.d then subDec else subBin) t.wM t.acc v.1 t.p.c) (decimalCharge v.2)

/-- CMP: compare with the accumulator (43_alu.md R259). -/
def compareAcc (o : Operand) (t : State) : State :=
  let v := loadOp o t.wM t
  v.2.setP (cmpFlags t.wM t.acc v.1 t.p)

/-- CPX: compare with X (43_alu.md R260). -/
def compareX (o : Operand) (t : State) : State :=
  let v := loadOp o t.wX t
  v.2.setP (cmpFlags t.wX t.xVal v.1 t.p)

/-- CPY: compare with Y (43_alu.md R261). -/
def compareY (o : Operand) (t : State) : State :=
  let v := loadOp o t.wX t
  v.2.setP (cmpFlags t.wX t.yVal v.1 t.p)

/-- A bitwise operation into the accumulator (43_alu.md R262 to R264). -/
def logic (f : Word → Word → Word) (o : Operand) (t : State) : State :=
  let v := loadOp o t.wM t
  (v.2.setAcc (f t.acc v.1)).setNZ t.wM (f t.acc v.1)

/-- BIT in a memory form (43_alu.md R265). -/
def bitMem (m : AddrMode) (t : State) : State :=
  let v := loadOp (.mem m) t.wM t
  v.2.setP (bitTest t.wM true t.acc v.1 t.p)

/-- BIT immediate: z only (43_alu.md R265). -/
def bitImmediate (v : Imm) (t : State) : State :=
  t.setP (bitTest t.wM false t.acc (t.wM.trunc v.value) t.p)

/-- ADC (d,X) (43_alu.md R257). -/
def execAdcDpXInd (d : Byte) (t : State) : Host.Outcome State Fault Refusal :=
  .next (adc (.mem (.dpXInd d)) t)

/-- ADC d,S (43_alu.md R257). -/
def execAdcSr (d : Byte) (t : State) : Host.Outcome State Fault Refusal :=
  .next (adc (.mem (.sr d)) t)

/-- ADC d (43_alu.md R257). -/
def execAdcDp (d : Byte) (t : State) : Host.Outcome State Fault Refusal :=
  .next (adc (.mem (.dp d)) t)

/-- ADC [d] (43_alu.md R257). -/
def execAdcDpIndL (d : Byte) (t : State) : Host.Outcome State Fault Refusal :=
  .next (adc (.mem (.dpIndL d)) t)

/-- ADC #m (43_alu.md R257). -/
def execAdcImm (v : Imm) (t : State) : Host.Outcome State Fault Refusal :=
  .next (adc (.imm v) t)

/-- ADC a (43_alu.md R257). -/
def execAdcAbs (w : Word) (t : State) : Host.Outcome State Fault Refusal :=
  .next (adc (.mem (.abs w)) t)

/-- ADC al (43_alu.md R257). -/
def execAdcAbsL (l : Addr) (t : State) : Host.Outcome State Fault Refusal :=
  .next (adc (.mem (.absL l)) t)

/-- ADC (d),Y (43_alu.md R257). -/
def execAdcDpIndY (d : Byte) (t : State) : Host.Outcome State Fault Refusal :=
  .next (adc (.mem (.dpIndY d)) t)

/-- ADC (d) (43_alu.md R257). -/
def execAdcDpInd (d : Byte) (t : State) : Host.Outcome State Fault Refusal :=
  .next (adc (.mem (.dpInd d)) t)

/-- ADC (d,S),Y (43_alu.md R257). -/
def execAdcSrIndY (d : Byte) (t : State) : Host.Outcome State Fault Refusal :=
  .next (adc (.mem (.srIndY d)) t)

/-- ADC d,X (43_alu.md R257). -/
def execAdcDpX (d : Byte) (t : State) : Host.Outcome State Fault Refusal :=
  .next (adc (.mem (.dpX d)) t)

/-- ADC [d],Y (43_alu.md R257). -/
def execAdcDpIndLY (d : Byte) (t : State) : Host.Outcome State Fault Refusal :=
  .next (adc (.mem (.dpIndLY d)) t)

/-- ADC a,Y (43_alu.md R257). -/
def execAdcAbsY (w : Word) (t : State) : Host.Outcome State Fault Refusal :=
  .next (adc (.mem (.absY w)) t)

/-- ADC a,X (43_alu.md R257). -/
def execAdcAbsX (w : Word) (t : State) : Host.Outcome State Fault Refusal :=
  .next (adc (.mem (.absX w)) t)

/-- ADC al,X (43_alu.md R257). -/
def execAdcAbsLX (l : Addr) (t : State) : Host.Outcome State Fault Refusal :=
  .next (adc (.mem (.absLX l)) t)

/-- SBC (d,X) (43_alu.md R258). -/
def execSbcDpXInd (d : Byte) (t : State) : Host.Outcome State Fault Refusal :=
  .next (sbc (.mem (.dpXInd d)) t)

/-- SBC d,S (43_alu.md R258). -/
def execSbcSr (d : Byte) (t : State) : Host.Outcome State Fault Refusal :=
  .next (sbc (.mem (.sr d)) t)

/-- SBC d (43_alu.md R258). -/
def execSbcDp (d : Byte) (t : State) : Host.Outcome State Fault Refusal :=
  .next (sbc (.mem (.dp d)) t)

/-- SBC [d] (43_alu.md R258). -/
def execSbcDpIndL (d : Byte) (t : State) : Host.Outcome State Fault Refusal :=
  .next (sbc (.mem (.dpIndL d)) t)

/-- SBC #m (43_alu.md R258). -/
def execSbcImm (v : Imm) (t : State) : Host.Outcome State Fault Refusal :=
  .next (sbc (.imm v) t)

/-- SBC a (43_alu.md R258). -/
def execSbcAbs (w : Word) (t : State) : Host.Outcome State Fault Refusal :=
  .next (sbc (.mem (.abs w)) t)

/-- SBC al (43_alu.md R258). -/
def execSbcAbsL (l : Addr) (t : State) : Host.Outcome State Fault Refusal :=
  .next (sbc (.mem (.absL l)) t)

/-- SBC (d),Y (43_alu.md R258). -/
def execSbcDpIndY (d : Byte) (t : State) : Host.Outcome State Fault Refusal :=
  .next (sbc (.mem (.dpIndY d)) t)

/-- SBC (d) (43_alu.md R258). -/
def execSbcDpInd (d : Byte) (t : State) : Host.Outcome State Fault Refusal :=
  .next (sbc (.mem (.dpInd d)) t)

/-- SBC (d,S),Y (43_alu.md R258). -/
def execSbcSrIndY (d : Byte) (t : State) : Host.Outcome State Fault Refusal :=
  .next (sbc (.mem (.srIndY d)) t)

/-- SBC d,X (43_alu.md R258). -/
def execSbcDpX (d : Byte) (t : State) : Host.Outcome State Fault Refusal :=
  .next (sbc (.mem (.dpX d)) t)

/-- SBC [d],Y (43_alu.md R258). -/
def execSbcDpIndLY (d : Byte) (t : State) : Host.Outcome State Fault Refusal :=
  .next (sbc (.mem (.dpIndLY d)) t)

/-- SBC a,Y (43_alu.md R258). -/
def execSbcAbsY (w : Word) (t : State) : Host.Outcome State Fault Refusal :=
  .next (sbc (.mem (.absY w)) t)

/-- SBC a,X (43_alu.md R258). -/
def execSbcAbsX (w : Word) (t : State) : Host.Outcome State Fault Refusal :=
  .next (sbc (.mem (.absX w)) t)

/-- SBC al,X (43_alu.md R258). -/
def execSbcAbsLX (l : Addr) (t : State) : Host.Outcome State Fault Refusal :=
  .next (sbc (.mem (.absLX l)) t)

/-- CMP (d,X) (43_alu.md R259). -/
def execCmpDpXInd (d : Byte) (t : State) : Host.Outcome State Fault Refusal :=
  .next (compareAcc (.mem (.dpXInd d)) t)

/-- CMP d,S (43_alu.md R259). -/
def execCmpSr (d : Byte) (t : State) : Host.Outcome State Fault Refusal :=
  .next (compareAcc (.mem (.sr d)) t)

/-- CMP d (43_alu.md R259). -/
def execCmpDp (d : Byte) (t : State) : Host.Outcome State Fault Refusal :=
  .next (compareAcc (.mem (.dp d)) t)

/-- CMP [d] (43_alu.md R259). -/
def execCmpDpIndL (d : Byte) (t : State) : Host.Outcome State Fault Refusal :=
  .next (compareAcc (.mem (.dpIndL d)) t)

/-- CMP #m (43_alu.md R259). -/
def execCmpImm (v : Imm) (t : State) : Host.Outcome State Fault Refusal :=
  .next (compareAcc (.imm v) t)

/-- CMP a (43_alu.md R259). -/
def execCmpAbs (w : Word) (t : State) : Host.Outcome State Fault Refusal :=
  .next (compareAcc (.mem (.abs w)) t)

/-- CMP al (43_alu.md R259). -/
def execCmpAbsL (l : Addr) (t : State) : Host.Outcome State Fault Refusal :=
  .next (compareAcc (.mem (.absL l)) t)

/-- CMP (d),Y (43_alu.md R259). -/
def execCmpDpIndY (d : Byte) (t : State) : Host.Outcome State Fault Refusal :=
  .next (compareAcc (.mem (.dpIndY d)) t)

/-- CMP (d) (43_alu.md R259). -/
def execCmpDpInd (d : Byte) (t : State) : Host.Outcome State Fault Refusal :=
  .next (compareAcc (.mem (.dpInd d)) t)

/-- CMP (d,S),Y (43_alu.md R259). -/
def execCmpSrIndY (d : Byte) (t : State) : Host.Outcome State Fault Refusal :=
  .next (compareAcc (.mem (.srIndY d)) t)

/-- CMP d,X (43_alu.md R259). -/
def execCmpDpX (d : Byte) (t : State) : Host.Outcome State Fault Refusal :=
  .next (compareAcc (.mem (.dpX d)) t)

/-- CMP [d],Y (43_alu.md R259). -/
def execCmpDpIndLY (d : Byte) (t : State) : Host.Outcome State Fault Refusal :=
  .next (compareAcc (.mem (.dpIndLY d)) t)

/-- CMP a,Y (43_alu.md R259). -/
def execCmpAbsY (w : Word) (t : State) : Host.Outcome State Fault Refusal :=
  .next (compareAcc (.mem (.absY w)) t)

/-- CMP a,X (43_alu.md R259). -/
def execCmpAbsX (w : Word) (t : State) : Host.Outcome State Fault Refusal :=
  .next (compareAcc (.mem (.absX w)) t)

/-- CMP al,X (43_alu.md R259). -/
def execCmpAbsLX (l : Addr) (t : State) : Host.Outcome State Fault Refusal :=
  .next (compareAcc (.mem (.absLX l)) t)

/-- CPX #x (43_alu.md R260). -/
def execCpxImm (v : Imm) (t : State) : Host.Outcome State Fault Refusal :=
  .next (compareX (.imm v) t)

/-- CPX d (43_alu.md R260). -/
def execCpxDp (d : Byte) (t : State) : Host.Outcome State Fault Refusal :=
  .next (compareX (.mem (.dp d)) t)

/-- CPX a (43_alu.md R260). -/
def execCpxAbs (w : Word) (t : State) : Host.Outcome State Fault Refusal :=
  .next (compareX (.mem (.abs w)) t)

/-- CPY #x (43_alu.md R261). -/
def execCpyImm (v : Imm) (t : State) : Host.Outcome State Fault Refusal :=
  .next (compareY (.imm v) t)

/-- CPY d (43_alu.md R261). -/
def execCpyDp (d : Byte) (t : State) : Host.Outcome State Fault Refusal :=
  .next (compareY (.mem (.dp d)) t)

/-- CPY a (43_alu.md R261). -/
def execCpyAbs (w : Word) (t : State) : Host.Outcome State Fault Refusal :=
  .next (compareY (.mem (.abs w)) t)

/-- AND (d,X) (43_alu.md R262). -/
def execAndDpXInd (d : Byte) (t : State) : Host.Outcome State Fault Refusal :=
  .next (logic (· &&& ·) (.mem (.dpXInd d)) t)

/-- AND d,S (43_alu.md R262). -/
def execAndSr (d : Byte) (t : State) : Host.Outcome State Fault Refusal :=
  .next (logic (· &&& ·) (.mem (.sr d)) t)

/-- AND d (43_alu.md R262). -/
def execAndDp (d : Byte) (t : State) : Host.Outcome State Fault Refusal :=
  .next (logic (· &&& ·) (.mem (.dp d)) t)

/-- AND [d] (43_alu.md R262). -/
def execAndDpIndL (d : Byte) (t : State) : Host.Outcome State Fault Refusal :=
  .next (logic (· &&& ·) (.mem (.dpIndL d)) t)

/-- AND #m (43_alu.md R262). -/
def execAndImm (v : Imm) (t : State) : Host.Outcome State Fault Refusal :=
  .next (logic (· &&& ·) (.imm v) t)

/-- AND a (43_alu.md R262). -/
def execAndAbs (w : Word) (t : State) : Host.Outcome State Fault Refusal :=
  .next (logic (· &&& ·) (.mem (.abs w)) t)

/-- AND al (43_alu.md R262). -/
def execAndAbsL (l : Addr) (t : State) : Host.Outcome State Fault Refusal :=
  .next (logic (· &&& ·) (.mem (.absL l)) t)

/-- AND (d),Y (43_alu.md R262). -/
def execAndDpIndY (d : Byte) (t : State) : Host.Outcome State Fault Refusal :=
  .next (logic (· &&& ·) (.mem (.dpIndY d)) t)

/-- AND (d) (43_alu.md R262). -/
def execAndDpInd (d : Byte) (t : State) : Host.Outcome State Fault Refusal :=
  .next (logic (· &&& ·) (.mem (.dpInd d)) t)

/-- AND (d,S),Y (43_alu.md R262). -/
def execAndSrIndY (d : Byte) (t : State) : Host.Outcome State Fault Refusal :=
  .next (logic (· &&& ·) (.mem (.srIndY d)) t)

/-- AND d,X (43_alu.md R262). -/
def execAndDpX (d : Byte) (t : State) : Host.Outcome State Fault Refusal :=
  .next (logic (· &&& ·) (.mem (.dpX d)) t)

/-- AND [d],Y (43_alu.md R262). -/
def execAndDpIndLY (d : Byte) (t : State) : Host.Outcome State Fault Refusal :=
  .next (logic (· &&& ·) (.mem (.dpIndLY d)) t)

/-- AND a,Y (43_alu.md R262). -/
def execAndAbsY (w : Word) (t : State) : Host.Outcome State Fault Refusal :=
  .next (logic (· &&& ·) (.mem (.absY w)) t)

/-- AND a,X (43_alu.md R262). -/
def execAndAbsX (w : Word) (t : State) : Host.Outcome State Fault Refusal :=
  .next (logic (· &&& ·) (.mem (.absX w)) t)

/-- AND al,X (43_alu.md R262). -/
def execAndAbsLX (l : Addr) (t : State) : Host.Outcome State Fault Refusal :=
  .next (logic (· &&& ·) (.mem (.absLX l)) t)

/-- ORA (d,X) (43_alu.md R263). -/
def execOraDpXInd (d : Byte) (t : State) : Host.Outcome State Fault Refusal :=
  .next (logic (· ||| ·) (.mem (.dpXInd d)) t)

/-- ORA d,S (43_alu.md R263). -/
def execOraSr (d : Byte) (t : State) : Host.Outcome State Fault Refusal :=
  .next (logic (· ||| ·) (.mem (.sr d)) t)

/-- ORA d (43_alu.md R263). -/
def execOraDp (d : Byte) (t : State) : Host.Outcome State Fault Refusal :=
  .next (logic (· ||| ·) (.mem (.dp d)) t)

/-- ORA [d] (43_alu.md R263). -/
def execOraDpIndL (d : Byte) (t : State) : Host.Outcome State Fault Refusal :=
  .next (logic (· ||| ·) (.mem (.dpIndL d)) t)

/-- ORA #m (43_alu.md R263). -/
def execOraImm (v : Imm) (t : State) : Host.Outcome State Fault Refusal :=
  .next (logic (· ||| ·) (.imm v) t)

/-- ORA a (43_alu.md R263). -/
def execOraAbs (w : Word) (t : State) : Host.Outcome State Fault Refusal :=
  .next (logic (· ||| ·) (.mem (.abs w)) t)

/-- ORA al (43_alu.md R263). -/
def execOraAbsL (l : Addr) (t : State) : Host.Outcome State Fault Refusal :=
  .next (logic (· ||| ·) (.mem (.absL l)) t)

/-- ORA (d),Y (43_alu.md R263). -/
def execOraDpIndY (d : Byte) (t : State) : Host.Outcome State Fault Refusal :=
  .next (logic (· ||| ·) (.mem (.dpIndY d)) t)

/-- ORA (d) (43_alu.md R263). -/
def execOraDpInd (d : Byte) (t : State) : Host.Outcome State Fault Refusal :=
  .next (logic (· ||| ·) (.mem (.dpInd d)) t)

/-- ORA (d,S),Y (43_alu.md R263). -/
def execOraSrIndY (d : Byte) (t : State) : Host.Outcome State Fault Refusal :=
  .next (logic (· ||| ·) (.mem (.srIndY d)) t)

/-- ORA d,X (43_alu.md R263). -/
def execOraDpX (d : Byte) (t : State) : Host.Outcome State Fault Refusal :=
  .next (logic (· ||| ·) (.mem (.dpX d)) t)

/-- ORA [d],Y (43_alu.md R263). -/
def execOraDpIndLY (d : Byte) (t : State) : Host.Outcome State Fault Refusal :=
  .next (logic (· ||| ·) (.mem (.dpIndLY d)) t)

/-- ORA a,Y (43_alu.md R263). -/
def execOraAbsY (w : Word) (t : State) : Host.Outcome State Fault Refusal :=
  .next (logic (· ||| ·) (.mem (.absY w)) t)

/-- ORA a,X (43_alu.md R263). -/
def execOraAbsX (w : Word) (t : State) : Host.Outcome State Fault Refusal :=
  .next (logic (· ||| ·) (.mem (.absX w)) t)

/-- ORA al,X (43_alu.md R263). -/
def execOraAbsLX (l : Addr) (t : State) : Host.Outcome State Fault Refusal :=
  .next (logic (· ||| ·) (.mem (.absLX l)) t)

/-- EOR (d,X) (43_alu.md R264). -/
def execEorDpXInd (d : Byte) (t : State) : Host.Outcome State Fault Refusal :=
  .next (logic (· ^^^ ·) (.mem (.dpXInd d)) t)

/-- EOR d,S (43_alu.md R264). -/
def execEorSr (d : Byte) (t : State) : Host.Outcome State Fault Refusal :=
  .next (logic (· ^^^ ·) (.mem (.sr d)) t)

/-- EOR d (43_alu.md R264). -/
def execEorDp (d : Byte) (t : State) : Host.Outcome State Fault Refusal :=
  .next (logic (· ^^^ ·) (.mem (.dp d)) t)

/-- EOR [d] (43_alu.md R264). -/
def execEorDpIndL (d : Byte) (t : State) : Host.Outcome State Fault Refusal :=
  .next (logic (· ^^^ ·) (.mem (.dpIndL d)) t)

/-- EOR #m (43_alu.md R264). -/
def execEorImm (v : Imm) (t : State) : Host.Outcome State Fault Refusal :=
  .next (logic (· ^^^ ·) (.imm v) t)

/-- EOR a (43_alu.md R264). -/
def execEorAbs (w : Word) (t : State) : Host.Outcome State Fault Refusal :=
  .next (logic (· ^^^ ·) (.mem (.abs w)) t)

/-- EOR al (43_alu.md R264). -/
def execEorAbsL (l : Addr) (t : State) : Host.Outcome State Fault Refusal :=
  .next (logic (· ^^^ ·) (.mem (.absL l)) t)

/-- EOR (d),Y (43_alu.md R264). -/
def execEorDpIndY (d : Byte) (t : State) : Host.Outcome State Fault Refusal :=
  .next (logic (· ^^^ ·) (.mem (.dpIndY d)) t)

/-- EOR (d) (43_alu.md R264). -/
def execEorDpInd (d : Byte) (t : State) : Host.Outcome State Fault Refusal :=
  .next (logic (· ^^^ ·) (.mem (.dpInd d)) t)

/-- EOR (d,S),Y (43_alu.md R264). -/
def execEorSrIndY (d : Byte) (t : State) : Host.Outcome State Fault Refusal :=
  .next (logic (· ^^^ ·) (.mem (.srIndY d)) t)

/-- EOR d,X (43_alu.md R264). -/
def execEorDpX (d : Byte) (t : State) : Host.Outcome State Fault Refusal :=
  .next (logic (· ^^^ ·) (.mem (.dpX d)) t)

/-- EOR [d],Y (43_alu.md R264). -/
def execEorDpIndLY (d : Byte) (t : State) : Host.Outcome State Fault Refusal :=
  .next (logic (· ^^^ ·) (.mem (.dpIndLY d)) t)

/-- EOR a,Y (43_alu.md R264). -/
def execEorAbsY (w : Word) (t : State) : Host.Outcome State Fault Refusal :=
  .next (logic (· ^^^ ·) (.mem (.absY w)) t)

/-- EOR a,X (43_alu.md R264). -/
def execEorAbsX (w : Word) (t : State) : Host.Outcome State Fault Refusal :=
  .next (logic (· ^^^ ·) (.mem (.absX w)) t)

/-- EOR al,X (43_alu.md R264). -/
def execEorAbsLX (l : Addr) (t : State) : Host.Outcome State Fault Refusal :=
  .next (logic (· ^^^ ·) (.mem (.absLX l)) t)

/-- BIT d (43_alu.md R265). -/
def execBitDp (d : Byte) (t : State) : Host.Outcome State Fault Refusal :=
  .next (bitMem (.dp d) t)

/-- BIT a (43_alu.md R265). -/
def execBitAbs (w : Word) (t : State) : Host.Outcome State Fault Refusal :=
  .next (bitMem (.abs w) t)

/-- BIT d,X (43_alu.md R265). -/
def execBitDpX (d : Byte) (t : State) : Host.Outcome State Fault Refusal :=
  .next (bitMem (.dpX d) t)

/-- BIT a,X (43_alu.md R265). -/
def execBitAbsX (w : Word) (t : State) : Host.Outcome State Fault Refusal :=
  .next (bitMem (.absX w) t)

/-- BIT #m (43_alu.md R265). -/
def execBitImm (v : Imm) (t : State) : Host.Outcome State Fault Refusal :=
  .next (bitImmediate v t)

end Sys2Proof.Machine
end

