-- ==== Sys2Proof/Machine/Control.lean ====
section
/-! DEFINITION. Machine/Control.lean: branches, jumps, calls and returns (spec/45_control.md): one meaning per
constructor, over shared operations. A meaning runs with PC past the instruction's bytes (spec/10_state.md R35). -/

namespace Sys2Proof.Machine

/-- The common branch rule: PC is past the operand when the condition is tested (45_control.md R320). -/
def branch (cond : Bool) (r : Byte) (t : State) : State := if cond then t.setPC (t.pc + sext r) else t

/-- A jump that changes the program bank (45_control.md R332, R334). -/
def jumpLong (l : Addr) (t : State) : State := (t.setPC (offOf l)).setPBR (bankOf l)

/-- The three bytes of a jump pointer in bank 0 (40_addressing.md R185). -/
def readPointerLong (p : Word) (t : State) : Addr × State :=
  let w := readPointer 0 p t
  let b := read8 (bank0 (p + 2)) w.2
  (addr b.1 w.1, b.2)

/-- JMP (a,X) and the jump of JSR (a,X): the pointer is in bank PBR (40_addressing.md R184). -/
def jumpIndexed (p : Word) (t : State) : State :=
  let target := readPointer t.pbr (p + t.x) t
  target.2.setPC target.1

/-- The return address of JSR and JSL: the address of the instruction's last byte (45_control.md R333, R334). -/
def pushReturn (t : State) : State := push16 (t.pc - 1) t

/-- RTS: the pulled address plus one (45_control.md R335). -/
def returnShort (t : State) : State :=
  let target := pull16 t
  target.2.setPC (target.1 + 1)

/-- RTL: the pulled address plus one, then the program bank (45_control.md R336). -/
def returnLong (t : State) : State :=
  let target := returnShort t
  let b := pull8 target
  b.2.setPBR b.1

/-- BPL r (45_control.md R321). -/
def execBpl (r : Byte) (t : State) : Host.Outcome State Fault Refusal :=
  .next (branch (!t.p.n) r t)

/-- BMI r (45_control.md R322). -/
def execBmi (r : Byte) (t : State) : Host.Outcome State Fault Refusal :=
  .next (branch t.p.n r t)

/-- BVC r (45_control.md R323). -/
def execBvc (r : Byte) (t : State) : Host.Outcome State Fault Refusal :=
  .next (branch (!t.p.v) r t)

/-- BVS r (45_control.md R324). -/
def execBvs (r : Byte) (t : State) : Host.Outcome State Fault Refusal :=
  .next (branch t.p.v r t)

/-- BCC r (45_control.md R325). -/
def execBcc (r : Byte) (t : State) : Host.Outcome State Fault Refusal :=
  .next (branch (!t.p.c) r t)

/-- BCS r (45_control.md R326). -/
def execBcs (r : Byte) (t : State) : Host.Outcome State Fault Refusal :=
  .next (branch t.p.c r t)

/-- BNE r (45_control.md R327). -/
def execBne (r : Byte) (t : State) : Host.Outcome State Fault Refusal :=
  .next (branch (!t.p.z) r t)

/-- BEQ r (45_control.md R328). -/
def execBeq (r : Byte) (t : State) : Host.Outcome State Fault Refusal :=
  .next (branch t.p.z r t)

/-- BRA r (45_control.md R329). -/
def execBra (r : Byte) (t : State) : Host.Outcome State Fault Refusal :=
  .next (branch true r t)

/-- BRL rl (45_control.md R330). -/
def execBrl (r : Word) (t : State) : Host.Outcome State Fault Refusal :=
  .next (t.setPC (t.pc + r))

/-- JMP a (45_control.md R331). -/
def execJmpAbs (w : Word) (t : State) : Host.Outcome State Fault Refusal :=
  .next (t.setPC w)

/-- JMP (a) (45_control.md R331). -/
def execJmpInd (p : Word) (t : State) : Host.Outcome State Fault Refusal :=
  .next ((readPointer 0 p t).2.setPC (readPointer 0 p t).1)

/-- JMP (a,X) (45_control.md R331). -/
def execJmpXInd (p : Word) (t : State) : Host.Outcome State Fault Refusal :=
  .next (jumpIndexed p t)

/-- JML al (45_control.md R332). -/
def execJmlLong (l : Addr) (t : State) : Host.Outcome State Fault Refusal :=
  .next (jumpLong l t)

/-- JML [a] (45_control.md R332). -/
def execJmlInd (p : Word) (t : State) : Host.Outcome State Fault Refusal :=
  .next (jumpLong (readPointerLong p t).1 (readPointerLong p t).2)

/-- JSR a (45_control.md R333). -/
def execJsrAbs (w : Word) (t : State) : Host.Outcome State Fault Refusal :=
  .next ((pushReturn t).setPC w)

/-- JSR (a,X) (45_control.md R333). -/
def execJsrXInd (p : Word) (t : State) : Host.Outcome State Fault Refusal :=
  .next (jumpIndexed p (pushReturn t))

/-- JSL al (45_control.md R334). -/
def execJsl (l : Addr) (t : State) : Host.Outcome State Fault Refusal :=
  .next (jumpLong l (pushReturn (push8 t.pbr t)))

/-- RTS (45_control.md R335). -/
def execRts (t : State) : Host.Outcome State Fault Refusal :=
  .next (returnShort t)

/-- RTL (45_control.md R336). -/
def execRtl (t : State) : Host.Outcome State Fault Refusal :=
  .next (returnLong t)

end Sys2Proof.Machine
end

