-- ==== Sys2Proof/Machine/LoadStore.lean ====
section
/-! DEFINITION. Machine/LoadStore.lean: loads and stores (spec/41_load_store.md): one meaning per
constructor, over shared operations. A meaning runs with PC past the instruction's bytes (spec/10_state.md R35). -/

namespace Sys2Proof.Machine

/-- LDA: load the accumulator (41_load_store.md R200). -/
def lda (o : Operand) (t : State) : State :=
  let v := loadOp o t.wM t
  (v.2.setAcc v.1).setNZ t.wM v.1

/-- LDX: load X (41_load_store.md R201). -/
def ldx (o : Operand) (t : State) : State :=
  let v := loadOp o t.wX t
  (v.2.putX v.1).setNZ t.wX v.1

/-- LDY: load Y (41_load_store.md R202). -/
def ldy (o : Operand) (t : State) : State :=
  let v := loadOp o t.wX t
  (v.2.putY v.1).setNZ t.wX v.1

/-- STA: store the accumulator (41_load_store.md R203). -/
def sta (m : AddrMode) (t : State) : State := storeOp m t.wM t.acc t

/-- STX: store X (41_load_store.md R204). -/
def stx (m : AddrMode) (t : State) : State := storeOp m t.wX t.xVal t

/-- STY: store Y (41_load_store.md R205). -/
def sty (m : AddrMode) (t : State) : State := storeOp m t.wX t.yVal t

/-- STZ: store zero (41_load_store.md R206). -/
def stz (m : AddrMode) (t : State) : State := storeOp m t.wM 0 t

/-- LDA (d,X) (41_load_store.md R200). -/
def execLdaDpXInd (d : Byte) (t : State) : Host.Outcome State Fault Refusal :=
  .next (lda (.mem (.dpXInd d)) t)

/-- LDA d,S (41_load_store.md R200). -/
def execLdaSr (d : Byte) (t : State) : Host.Outcome State Fault Refusal :=
  .next (lda (.mem (.sr d)) t)

/-- LDA d (41_load_store.md R200). -/
def execLdaDp (d : Byte) (t : State) : Host.Outcome State Fault Refusal :=
  .next (lda (.mem (.dp d)) t)

/-- LDA [d] (41_load_store.md R200). -/
def execLdaDpIndL (d : Byte) (t : State) : Host.Outcome State Fault Refusal :=
  .next (lda (.mem (.dpIndL d)) t)

/-- LDA #m (41_load_store.md R200). -/
def execLdaImm (v : Imm) (t : State) : Host.Outcome State Fault Refusal :=
  .next (lda (.imm v) t)

/-- LDA a (41_load_store.md R200). -/
def execLdaAbs (w : Word) (t : State) : Host.Outcome State Fault Refusal :=
  .next (lda (.mem (.abs w)) t)

/-- LDA al (41_load_store.md R200). -/
def execLdaAbsL (l : Addr) (t : State) : Host.Outcome State Fault Refusal :=
  .next (lda (.mem (.absL l)) t)

/-- LDA (d),Y (41_load_store.md R200). -/
def execLdaDpIndY (d : Byte) (t : State) : Host.Outcome State Fault Refusal :=
  .next (lda (.mem (.dpIndY d)) t)

/-- LDA (d) (41_load_store.md R200). -/
def execLdaDpInd (d : Byte) (t : State) : Host.Outcome State Fault Refusal :=
  .next (lda (.mem (.dpInd d)) t)

/-- LDA (d,S),Y (41_load_store.md R200). -/
def execLdaSrIndY (d : Byte) (t : State) : Host.Outcome State Fault Refusal :=
  .next (lda (.mem (.srIndY d)) t)

/-- LDA d,X (41_load_store.md R200). -/
def execLdaDpX (d : Byte) (t : State) : Host.Outcome State Fault Refusal :=
  .next (lda (.mem (.dpX d)) t)

/-- LDA [d],Y (41_load_store.md R200). -/
def execLdaDpIndLY (d : Byte) (t : State) : Host.Outcome State Fault Refusal :=
  .next (lda (.mem (.dpIndLY d)) t)

/-- LDA a,Y (41_load_store.md R200). -/
def execLdaAbsY (w : Word) (t : State) : Host.Outcome State Fault Refusal :=
  .next (lda (.mem (.absY w)) t)

/-- LDA a,X (41_load_store.md R200). -/
def execLdaAbsX (w : Word) (t : State) : Host.Outcome State Fault Refusal :=
  .next (lda (.mem (.absX w)) t)

/-- LDA al,X (41_load_store.md R200). -/
def execLdaAbsLX (l : Addr) (t : State) : Host.Outcome State Fault Refusal :=
  .next (lda (.mem (.absLX l)) t)

/-- LDX #x (41_load_store.md R201). -/
def execLdxImm (v : Imm) (t : State) : Host.Outcome State Fault Refusal :=
  .next (ldx (.imm v) t)

/-- LDX d (41_load_store.md R201). -/
def execLdxDp (d : Byte) (t : State) : Host.Outcome State Fault Refusal :=
  .next (ldx (.mem (.dp d)) t)

/-- LDX a (41_load_store.md R201). -/
def execLdxAbs (w : Word) (t : State) : Host.Outcome State Fault Refusal :=
  .next (ldx (.mem (.abs w)) t)

/-- LDX d,Y (41_load_store.md R201). -/
def execLdxDpY (d : Byte) (t : State) : Host.Outcome State Fault Refusal :=
  .next (ldx (.mem (.dpY d)) t)

/-- LDX a,Y (41_load_store.md R201). -/
def execLdxAbsY (w : Word) (t : State) : Host.Outcome State Fault Refusal :=
  .next (ldx (.mem (.absY w)) t)

/-- LDY #x (41_load_store.md R202). -/
def execLdyImm (v : Imm) (t : State) : Host.Outcome State Fault Refusal :=
  .next (ldy (.imm v) t)

/-- LDY d (41_load_store.md R202). -/
def execLdyDp (d : Byte) (t : State) : Host.Outcome State Fault Refusal :=
  .next (ldy (.mem (.dp d)) t)

/-- LDY a (41_load_store.md R202). -/
def execLdyAbs (w : Word) (t : State) : Host.Outcome State Fault Refusal :=
  .next (ldy (.mem (.abs w)) t)

/-- LDY d,X (41_load_store.md R202). -/
def execLdyDpX (d : Byte) (t : State) : Host.Outcome State Fault Refusal :=
  .next (ldy (.mem (.dpX d)) t)

/-- LDY a,X (41_load_store.md R202). -/
def execLdyAbsX (w : Word) (t : State) : Host.Outcome State Fault Refusal :=
  .next (ldy (.mem (.absX w)) t)

/-- STA (d,X) (41_load_store.md R203). -/
def execStaDpXInd (d : Byte) (t : State) : Host.Outcome State Fault Refusal :=
  .next (sta (.dpXInd d) t)

/-- STA d,S (41_load_store.md R203). -/
def execStaSr (d : Byte) (t : State) : Host.Outcome State Fault Refusal :=
  .next (sta (.sr d) t)

/-- STA d (41_load_store.md R203). -/
def execStaDp (d : Byte) (t : State) : Host.Outcome State Fault Refusal :=
  .next (sta (.dp d) t)

/-- STA [d] (41_load_store.md R203). -/
def execStaDpIndL (d : Byte) (t : State) : Host.Outcome State Fault Refusal :=
  .next (sta (.dpIndL d) t)

/-- STA a (41_load_store.md R203). -/
def execStaAbs (w : Word) (t : State) : Host.Outcome State Fault Refusal :=
  .next (sta (.abs w) t)

/-- STA al (41_load_store.md R203). -/
def execStaAbsL (l : Addr) (t : State) : Host.Outcome State Fault Refusal :=
  .next (sta (.absL l) t)

/-- STA (d),Y (41_load_store.md R203). -/
def execStaDpIndY (d : Byte) (t : State) : Host.Outcome State Fault Refusal :=
  .next (sta (.dpIndY d) t)

/-- STA (d) (41_load_store.md R203). -/
def execStaDpInd (d : Byte) (t : State) : Host.Outcome State Fault Refusal :=
  .next (sta (.dpInd d) t)

/-- STA (d,S),Y (41_load_store.md R203). -/
def execStaSrIndY (d : Byte) (t : State) : Host.Outcome State Fault Refusal :=
  .next (sta (.srIndY d) t)

/-- STA d,X (41_load_store.md R203). -/
def execStaDpX (d : Byte) (t : State) : Host.Outcome State Fault Refusal :=
  .next (sta (.dpX d) t)

/-- STA [d],Y (41_load_store.md R203). -/
def execStaDpIndLY (d : Byte) (t : State) : Host.Outcome State Fault Refusal :=
  .next (sta (.dpIndLY d) t)

/-- STA a,Y (41_load_store.md R203). -/
def execStaAbsY (w : Word) (t : State) : Host.Outcome State Fault Refusal :=
  .next (sta (.absY w) t)

/-- STA a,X (41_load_store.md R203). -/
def execStaAbsX (w : Word) (t : State) : Host.Outcome State Fault Refusal :=
  .next (sta (.absX w) t)

/-- STA al,X (41_load_store.md R203). -/
def execStaAbsLX (l : Addr) (t : State) : Host.Outcome State Fault Refusal :=
  .next (sta (.absLX l) t)

/-- STX d (41_load_store.md R204). -/
def execStxDp (d : Byte) (t : State) : Host.Outcome State Fault Refusal :=
  .next (stx (.dp d) t)

/-- STX a (41_load_store.md R204). -/
def execStxAbs (w : Word) (t : State) : Host.Outcome State Fault Refusal :=
  .next (stx (.abs w) t)

/-- STX d,Y (41_load_store.md R204). -/
def execStxDpY (d : Byte) (t : State) : Host.Outcome State Fault Refusal :=
  .next (stx (.dpY d) t)

/-- STY d (41_load_store.md R205). -/
def execStyDp (d : Byte) (t : State) : Host.Outcome State Fault Refusal :=
  .next (sty (.dp d) t)

/-- STY a (41_load_store.md R205). -/
def execStyAbs (w : Word) (t : State) : Host.Outcome State Fault Refusal :=
  .next (sty (.abs w) t)

/-- STY d,X (41_load_store.md R205). -/
def execStyDpX (d : Byte) (t : State) : Host.Outcome State Fault Refusal :=
  .next (sty (.dpX d) t)

/-- STZ d (41_load_store.md R206). -/
def execStzDp (d : Byte) (t : State) : Host.Outcome State Fault Refusal :=
  .next (stz (.dp d) t)

/-- STZ d,X (41_load_store.md R206). -/
def execStzDpX (d : Byte) (t : State) : Host.Outcome State Fault Refusal :=
  .next (stz (.dpX d) t)

/-- STZ a (41_load_store.md R206). -/
def execStzAbs (w : Word) (t : State) : Host.Outcome State Fault Refusal :=
  .next (stz (.abs w) t)

/-- STZ a,X (41_load_store.md R206). -/
def execStzAbsX (w : Word) (t : State) : Host.Outcome State Fault Refusal :=
  .next (stz (.absX w) t)

end Sys2Proof.Machine
end

