-- ==== Sys2Proof/Machine/Rmw.lean ====
section
/-! DEFINITION. Machine/Rmw.lean: shifts, rotates, increments and bit set and reset (spec/44_rmw.md): one meaning per
constructor, over shared operations. A meaning runs with PC past the instruction's bytes (spec/10_state.md R35). -/

namespace Sys2Proof.Machine

/-- INX and DEX: X changes by one at width wX (44_rmw.md R297, R299). -/
def stepX (delta : Word) (t : State) : State := (t.putX (t.x + delta)).setNZ t.wX (t.x + delta)

/-- INY and DEY: Y changes by one at width wX (44_rmw.md R298, R300). -/
def stepY (delta : Word) (t : State) : State := (t.putY (t.y + delta)).setNZ t.wX (t.y + delta)

/-- ASL d (44_rmw.md R291). -/
def execAslDp (d : Byte) (t : State) : Host.Outcome State Fault Refusal :=
  .next (rmwMem aslFn (.dp d) t)

/-- ASL A (44_rmw.md R291). -/
def execAslAcc (t : State) : Host.Outcome State Fault Refusal :=
  .next (rmwAcc aslFn t)

/-- ASL a (44_rmw.md R291). -/
def execAslAbs (w : Word) (t : State) : Host.Outcome State Fault Refusal :=
  .next (rmwMem aslFn (.abs w) t)

/-- ASL d,X (44_rmw.md R291). -/
def execAslDpX (d : Byte) (t : State) : Host.Outcome State Fault Refusal :=
  .next (rmwMem aslFn (.dpX d) t)

/-- ASL a,X (44_rmw.md R291). -/
def execAslAbsX (w : Word) (t : State) : Host.Outcome State Fault Refusal :=
  .next (rmwMem aslFn (.absX w) t)

/-- LSR d (44_rmw.md R292). -/
def execLsrDp (d : Byte) (t : State) : Host.Outcome State Fault Refusal :=
  .next (rmwMem lsrFn (.dp d) t)

/-- LSR A (44_rmw.md R292). -/
def execLsrAcc (t : State) : Host.Outcome State Fault Refusal :=
  .next (rmwAcc lsrFn t)

/-- LSR a (44_rmw.md R292). -/
def execLsrAbs (w : Word) (t : State) : Host.Outcome State Fault Refusal :=
  .next (rmwMem lsrFn (.abs w) t)

/-- LSR d,X (44_rmw.md R292). -/
def execLsrDpX (d : Byte) (t : State) : Host.Outcome State Fault Refusal :=
  .next (rmwMem lsrFn (.dpX d) t)

/-- LSR a,X (44_rmw.md R292). -/
def execLsrAbsX (w : Word) (t : State) : Host.Outcome State Fault Refusal :=
  .next (rmwMem lsrFn (.absX w) t)

/-- ROL d (44_rmw.md R293). -/
def execRolDp (d : Byte) (t : State) : Host.Outcome State Fault Refusal :=
  .next (rmwMem rolFn (.dp d) t)

/-- ROL A (44_rmw.md R293). -/
def execRolAcc (t : State) : Host.Outcome State Fault Refusal :=
  .next (rmwAcc rolFn t)

/-- ROL a (44_rmw.md R293). -/
def execRolAbs (w : Word) (t : State) : Host.Outcome State Fault Refusal :=
  .next (rmwMem rolFn (.abs w) t)

/-- ROL d,X (44_rmw.md R293). -/
def execRolDpX (d : Byte) (t : State) : Host.Outcome State Fault Refusal :=
  .next (rmwMem rolFn (.dpX d) t)

/-- ROL a,X (44_rmw.md R293). -/
def execRolAbsX (w : Word) (t : State) : Host.Outcome State Fault Refusal :=
  .next (rmwMem rolFn (.absX w) t)

/-- ROR d (44_rmw.md R294). -/
def execRorDp (d : Byte) (t : State) : Host.Outcome State Fault Refusal :=
  .next (rmwMem rorFn (.dp d) t)

/-- ROR A (44_rmw.md R294). -/
def execRorAcc (t : State) : Host.Outcome State Fault Refusal :=
  .next (rmwAcc rorFn t)

/-- ROR a (44_rmw.md R294). -/
def execRorAbs (w : Word) (t : State) : Host.Outcome State Fault Refusal :=
  .next (rmwMem rorFn (.abs w) t)

/-- ROR d,X (44_rmw.md R294). -/
def execRorDpX (d : Byte) (t : State) : Host.Outcome State Fault Refusal :=
  .next (rmwMem rorFn (.dpX d) t)

/-- ROR a,X (44_rmw.md R294). -/
def execRorAbsX (w : Word) (t : State) : Host.Outcome State Fault Refusal :=
  .next (rmwMem rorFn (.absX w) t)

/-- INC A (44_rmw.md R295). -/
def execIncAcc (t : State) : Host.Outcome State Fault Refusal :=
  .next (rmwAcc incFn t)

/-- INC d (44_rmw.md R295). -/
def execIncDp (d : Byte) (t : State) : Host.Outcome State Fault Refusal :=
  .next (rmwMem incFn (.dp d) t)

/-- INC a (44_rmw.md R295). -/
def execIncAbs (w : Word) (t : State) : Host.Outcome State Fault Refusal :=
  .next (rmwMem incFn (.abs w) t)

/-- INC d,X (44_rmw.md R295). -/
def execIncDpX (d : Byte) (t : State) : Host.Outcome State Fault Refusal :=
  .next (rmwMem incFn (.dpX d) t)

/-- INC a,X (44_rmw.md R295). -/
def execIncAbsX (w : Word) (t : State) : Host.Outcome State Fault Refusal :=
  .next (rmwMem incFn (.absX w) t)

/-- DEC A (44_rmw.md R296). -/
def execDecAcc (t : State) : Host.Outcome State Fault Refusal :=
  .next (rmwAcc decFn t)

/-- DEC d (44_rmw.md R296). -/
def execDecDp (d : Byte) (t : State) : Host.Outcome State Fault Refusal :=
  .next (rmwMem decFn (.dp d) t)

/-- DEC a (44_rmw.md R296). -/
def execDecAbs (w : Word) (t : State) : Host.Outcome State Fault Refusal :=
  .next (rmwMem decFn (.abs w) t)

/-- DEC d,X (44_rmw.md R296). -/
def execDecDpX (d : Byte) (t : State) : Host.Outcome State Fault Refusal :=
  .next (rmwMem decFn (.dpX d) t)

/-- DEC a,X (44_rmw.md R296). -/
def execDecAbsX (w : Word) (t : State) : Host.Outcome State Fault Refusal :=
  .next (rmwMem decFn (.absX w) t)

/-- INX (44_rmw.md R297). -/
def execInx (t : State) : Host.Outcome State Fault Refusal :=
  .next (stepX 1 t)

/-- INY (44_rmw.md R298). -/
def execIny (t : State) : Host.Outcome State Fault Refusal :=
  .next (stepY 1 t)

/-- DEX (44_rmw.md R299). -/
def execDex (t : State) : Host.Outcome State Fault Refusal :=
  .next (stepX (-1) t)

/-- DEY (44_rmw.md R300). -/
def execDey (t : State) : Host.Outcome State Fault Refusal :=
  .next (stepY (-1) t)

/-- TSB d (44_rmw.md R301). -/
def execTsbDp (d : Byte) (t : State) : Host.Outcome State Fault Refusal :=
  .next (rmwMem (tsbFn t.acc) (.dp d) t)

/-- TSB a (44_rmw.md R301). -/
def execTsbAbs (w : Word) (t : State) : Host.Outcome State Fault Refusal :=
  .next (rmwMem (tsbFn t.acc) (.abs w) t)

/-- TRB d (44_rmw.md R302). -/
def execTrbDp (d : Byte) (t : State) : Host.Outcome State Fault Refusal :=
  .next (rmwMem (trbFn t.acc) (.dp d) t)

/-- TRB a (44_rmw.md R302). -/
def execTrbAbs (w : Word) (t : State) : Host.Outcome State Fault Refusal :=
  .next (rmwMem (trbFn t.acc) (.abs w) t)

end Sys2Proof.Machine
end

