-- ==== Sys2Proof/Machine/Stack.lean ====
section
/-! DEFINITION. Machine/Stack.lean: the stack instructions (spec/46_stack.md): one meaning per
constructor, over shared operations. A meaning runs with PC past the instruction's bytes (spec/10_state.md R35). -/

namespace Sys2Proof.Machine

/-- PLA: pull the accumulator (46_stack.md R361). -/
def pullAcc (t : State) : State :=
  let v := pull t.wM t
  (v.2.setAcc v.1).setNZ t.wM v.1

/-- PLX: pull X (46_stack.md R362). -/
def pullX (t : State) : State :=
  let v := pull t.wX t
  (v.2.putX v.1).setNZ t.wX v.1

/-- PLY: pull Y (46_stack.md R363). -/
def pullY (t : State) : State :=
  let v := pull t.wX t
  (v.2.putY v.1).setNZ t.wX v.1

/-- PLB: pull the data bank (46_stack.md R364). -/
def pullDBR (t : State) : State :=
  let v := pull8 t
  (v.2.setDBR v.1).setNZ .w8 (zext v.1)

/-- PLP: pull the status byte (46_stack.md R365). -/
def pullP (t : State) : State :=
  let v := pull8 t
  v.2.unpack v.1

/-- PLD: pull the direct-page register (46_stack.md R366). -/
def pullDP (t : State) : State :=
  let v := pull16 t
  (v.2.setDP v.1).setNZ .w16 v.1

/-- PEI: push the pointer at the direct-page operand (46_stack.md R368). -/
def pushIndirect (d : Byte) (t : State) : State :=
  let ptr := memRead .w16 .D (bank0 (dpSum t d)) (dpCharge t)
  push16 ptr.1 ptr.2

/-- PHA (46_stack.md R354). -/
def execPha (t : State) : Host.Outcome State Fault Refusal :=
  .next (push t.wM t.acc t)

/-- PHX (46_stack.md R355). -/
def execPhx (t : State) : Host.Outcome State Fault Refusal :=
  .next (push t.wX t.xVal t)

/-- PHY (46_stack.md R356). -/
def execPhy (t : State) : Host.Outcome State Fault Refusal :=
  .next (push t.wX t.yVal t)

/-- PHP (46_stack.md R357). -/
def execPhp (t : State) : Host.Outcome State Fault Refusal :=
  .next (push8 (t.pack true) t)

/-- PHB (46_stack.md R358). -/
def execPhb (t : State) : Host.Outcome State Fault Refusal :=
  .next (push8 t.dbr t)

/-- PHD (46_stack.md R359). -/
def execPhd (t : State) : Host.Outcome State Fault Refusal :=
  .next (push16 t.dp t)

/-- PHK (46_stack.md R360). -/
def execPhk (t : State) : Host.Outcome State Fault Refusal :=
  .next (push8 t.pbr t)

/-- PLA (46_stack.md R361). -/
def execPla (t : State) : Host.Outcome State Fault Refusal :=
  .next (pullAcc t)

/-- PLX (46_stack.md R362). -/
def execPlx (t : State) : Host.Outcome State Fault Refusal :=
  .next (pullX t)

/-- PLY (46_stack.md R363). -/
def execPly (t : State) : Host.Outcome State Fault Refusal :=
  .next (pullY t)

/-- PLB (46_stack.md R364). -/
def execPlb (t : State) : Host.Outcome State Fault Refusal :=
  .next (pullDBR t)

/-- PLP (46_stack.md R365). -/
def execPlp (t : State) : Host.Outcome State Fault Refusal :=
  .next (pullP t)

/-- PLD (46_stack.md R366). -/
def execPld (t : State) : Host.Outcome State Fault Refusal :=
  .next (pullDP t)

/-- PEA #16 (46_stack.md R367). -/
def execPea (w : Word) (t : State) : Host.Outcome State Fault Refusal :=
  .next (push16 w t)

/-- PEI d (46_stack.md R368). -/
def execPei (d : Byte) (t : State) : Host.Outcome State Fault Refusal :=
  .next (pushIndirect d t)

/-- PER rl (46_stack.md R369). -/
def execPer (r : Word) (t : State) : Host.Outcome State Fault Refusal :=
  .next (push16 (t.pc + r) t)

end Sys2Proof.Machine
end

