-- ==== Sys2Proof/Machine/System.lean ====
section
/-! DEFINITION. Machine/System.lean: flag, mode and system instructions (spec/47_flags_mode_system.md): one meaning per
constructor, over shared operations. A meaning runs with PC past the instruction's bytes (spec/10_state.md R35). -/

namespace Sys2Proof.Machine

/-- The mask of REP and SEP: bits 4 and 5 have no effect in emulation mode (47_flags_mode_system.md R390, R391). -/
def statusMask (e : Bool) (k : Byte) : Byte := if e then k &&& 0xCF else k

/-- REP (47_flags_mode_system.md R390). -/
def resetBits (k : Byte) (t : State) : State := t.unpackN (packN t.p &&& ~~~(statusMask t.e k))

/-- SEP (47_flags_mode_system.md R391). -/
def setBits (k : Byte) (t : State) : State := t.unpackN (packN t.p ||| statusMask t.e k)

/-- What emulation mode asks of S, X and Y when XCE leaves e = 1 (47_flags_mode_system.md R392). -/
def enterEmulation (t : State) : State := (t.setS (join 1 (lo t.s))).clearIndexHigh

/-- XCE: exchange c and e; entry to native mode forces m and ex (47_flags_mode_system.md R392). -/
def exchangeCE (t : State) : State :=
  let force := t.e && !t.p.c
  let swapped := (t.setP { t.p with c := t.e, m := t.p.m || force, ex := t.p.ex || force }).setE t.p.c
  if t.p.c then enterEmulation swapped else swapped

/-- STP: PC goes back to the STP opcode and a very large cost is debited (47_flags_mode_system.md R398). -/
def stopClock (t : State) : State := (t.setPC (t.pc - 1)).debit t.cfg.stpCycles

/-- CLC (47_flags_mode_system.md R380). -/
def execClc (t : State) : Host.Outcome State Fault Refusal :=
  .next (t.setP { t.p with c := false })

/-- SEC (47_flags_mode_system.md R381). -/
def execSec (t : State) : Host.Outcome State Fault Refusal :=
  .next (t.setP { t.p with c := true })

/-- CLI (47_flags_mode_system.md R382). -/
def execCli (t : State) : Host.Outcome State Fault Refusal :=
  .next (t.setP { t.p with i := false })

/-- SEI (47_flags_mode_system.md R383). -/
def execSei (t : State) : Host.Outcome State Fault Refusal :=
  .next (t.setP { t.p with i := true })

/-- CLD (47_flags_mode_system.md R384). -/
def execCld (t : State) : Host.Outcome State Fault Refusal :=
  .next (t.setP { t.p with d := false })

/-- SED (47_flags_mode_system.md R385). -/
def execSed (t : State) : Host.Outcome State Fault Refusal :=
  .next (t.setP { t.p with d := true })

/-- CLV (47_flags_mode_system.md R386). -/
def execClv (t : State) : Host.Outcome State Fault Refusal :=
  .next (t.setP { t.p with v := false })

/-- REP #k (47_flags_mode_system.md R390). -/
def execRep (k : Byte) (t : State) : Host.Outcome State Fault Refusal :=
  .next (resetBits k t)

/-- SEP #k (47_flags_mode_system.md R391). -/
def execSep (k : Byte) (t : State) : Host.Outcome State Fault Refusal :=
  .next (setBits k t)

/-- XCE (47_flags_mode_system.md R392). -/
def execXce (t : State) : Host.Outcome State Fault Refusal :=
  .next (exchangeCE t)

/-- NOP (47_flags_mode_system.md R395). -/
def execNop (t : State) : Host.Outcome State Fault Refusal :=
  .next t

/-- WDM #k (47_flags_mode_system.md R396). -/
def execWdm (_k : Byte) (t : State) : Host.Outcome State Fault Refusal :=
  .next t

/-- WAI (47_flags_mode_system.md R397). -/
def execWai (t : State) : Host.Outcome State Fault Refusal :=
  .next (t.setWai true)

/-- STP (47_flags_mode_system.md R398). -/
def execStp (t : State) : Host.Outcome State Fault Refusal :=
  .next (stopClock t)

/-- BRK #k (47_flags_mode_system.md R400). -/
def execBrk (_k : Byte) (t : State) : Host.Outcome State Fault Refusal :=
  .next (interrupt .brk t)

/-- COP #k (47_flags_mode_system.md R401). -/
def execCop (_k : Byte) (t : State) : Host.Outcome State Fault Refusal :=
  .next (interrupt .cop t)

/-- RTI (47_flags_mode_system.md R403). -/
def execRti (t : State) : Host.Outcome State Fault Refusal :=
  .next (returnFromInterrupt t)

end Sys2Proof.Machine
end

