-- ==== Sys2Proof/Machine/Transfer.lean ====
section
/-! DEFINITION. Machine/Transfer.lean: register transfers and block moves (spec/42_transfer_blockmove.md): one meaning per
constructor, over shared operations. A meaning runs with PC past the instruction's bytes (spec/10_state.md R35). -/

namespace Sys2Proof.Machine

/-- A transfer to X at width wX: TAX, TSX, TYX (42_transfer_blockmove.md R220, R224, R227). -/
def transferX (v : Word) (t : State) : State := (t.putX v).setNZ t.wX v

/-- A transfer to Y at width wX: TAY, TXY (42_transfer_blockmove.md R221, R226). -/
def transferY (v : Word) (t : State) : State := (t.putY v).setNZ t.wX v

/-- A transfer of an index register to the accumulator at width wM: TXA, TYA. With M8, AH is kept
(42_transfer_blockmove.md R222, R223). -/
def transferAcc (v : Word) (t : State) : State := (t.setAcc v).setNZ t.wM v

/-- The stack pointer that TXS and TCS write: SH stays 01H in emulation mode (42_transfer_blockmove.md R225, R230). -/
def stackFrom (e : Bool) (v : Word) : Word := if e then join 1 (lo v) else v

/-- XBA: exchange AH and AL; n and z from the new AL (42_transfer_blockmove.md R232). -/
def exchangeAcc (t : State) : State := (t.setA (join (lo t.a) (hi t.a))).setNZ .w8 (zext (hi t.a))

/-- One step of a block move: one byte is moved, and the instruction runs again until the count is done
(42_transfer_blockmove.md R233, R234). -/
def blockMove (delta : Word) (dst src : Byte) (t : State) : State :=
  let b := read8 (addr src t.x) t
  let moved := write8 (addr dst t.y) b.1 b.2
  let counted := (((moved.setDBR dst).putX (t.x + delta)).putY (t.y + delta)).setA (t.a - 1)
  if t.a - 1 = 0xFFFF then counted else counted.setPC (t.pc - 3)

/-- TAX (42_transfer_blockmove.md R220). -/
def execTax (t : State) : Host.Outcome State Fault Refusal :=
  .next (transferX t.a t)

/-- TAY (42_transfer_blockmove.md R221). -/
def execTay (t : State) : Host.Outcome State Fault Refusal :=
  .next (transferY t.a t)

/-- TXA (42_transfer_blockmove.md R222). -/
def execTxa (t : State) : Host.Outcome State Fault Refusal :=
  .next (transferAcc t.x t)

/-- TYA (42_transfer_blockmove.md R223). -/
def execTya (t : State) : Host.Outcome State Fault Refusal :=
  .next (transferAcc t.y t)

/-- TSX (42_transfer_blockmove.md R224). -/
def execTsx (t : State) : Host.Outcome State Fault Refusal :=
  .next (transferX t.s t)

/-- TXS (42_transfer_blockmove.md R225). -/
def execTxs (t : State) : Host.Outcome State Fault Refusal :=
  .next (t.setS (stackFrom t.e t.x))

/-- TXY (42_transfer_blockmove.md R226). -/
def execTxy (t : State) : Host.Outcome State Fault Refusal :=
  .next (transferY t.x t)

/-- TYX (42_transfer_blockmove.md R227). -/
def execTyx (t : State) : Host.Outcome State Fault Refusal :=
  .next (transferX t.y t)

/-- TCD (42_transfer_blockmove.md R228). -/
def execTcd (t : State) : Host.Outcome State Fault Refusal :=
  .next ((t.setDP t.a).setNZ .w16 t.a)

/-- TDC (42_transfer_blockmove.md R229). -/
def execTdc (t : State) : Host.Outcome State Fault Refusal :=
  .next ((t.setA t.dp).setNZ .w16 t.dp)

/-- TCS (42_transfer_blockmove.md R230). -/
def execTcs (t : State) : Host.Outcome State Fault Refusal :=
  .next (t.setS (stackFrom t.e t.a))

/-- TSC (42_transfer_blockmove.md R231). -/
def execTsc (t : State) : Host.Outcome State Fault Refusal :=
  .next ((t.setA t.s).setNZ .w16 t.s)

/-- XBA (42_transfer_blockmove.md R232). -/
def execXba (t : State) : Host.Outcome State Fault Refusal :=
  .next (exchangeAcc t)

/-- MVN xyc (42_transfer_blockmove.md R235). -/
def execMvn (dst : Byte) (src : Byte) (t : State) : Host.Outcome State Fault Refusal :=
  .next (blockMove 1 dst src t)

/-- MVP xyc (42_transfer_blockmove.md R236). -/
def execMvp (dst : Byte) (src : Byte) (t : State) : Host.Outcome State Fault Refusal :=
  .next (blockMove (-1) dst src t)

end Sys2Proof.Machine
end

