-- ==== Sys2Proof/Machine/Dispatch.lean ====
section
/-! DEFINITION. Machine/Dispatch.lean: one arm per constructor, each one direct call of its meaning. -/

namespace Sys2Proof.Machine

/-- The meaning of an instruction: the rule of its opcode (30_encoding.md R137). -/
def exec (i : Instr) (s : State) : Host.Outcome State Fault Refusal :=
  match i with
  | .brk k => Sys2Proof.Machine.execBrk k s
  | .oraDpXInd d => Sys2Proof.Machine.execOraDpXInd d s
  | .cop k => Sys2Proof.Machine.execCop k s
  | .oraSr d => Sys2Proof.Machine.execOraSr d s
  | .tsbDp d => Sys2Proof.Machine.execTsbDp d s
  | .oraDp d => Sys2Proof.Machine.execOraDp d s
  | .aslDp d => Sys2Proof.Machine.execAslDp d s
  | .oraDpIndL d => Sys2Proof.Machine.execOraDpIndL d s
  | .php => Sys2Proof.Machine.execPhp s
  | .oraImm v => Sys2Proof.Machine.execOraImm v s
  | .aslAcc => Sys2Proof.Machine.execAslAcc s
  | .phd => Sys2Proof.Machine.execPhd s
  | .tsbAbs w => Sys2Proof.Machine.execTsbAbs w s
  | .oraAbs w => Sys2Proof.Machine.execOraAbs w s
  | .aslAbs w => Sys2Proof.Machine.execAslAbs w s
  | .oraAbsL l => Sys2Proof.Machine.execOraAbsL l s
  | .bpl r => Sys2Proof.Machine.execBpl r s
  | .oraDpIndY d => Sys2Proof.Machine.execOraDpIndY d s
  | .oraDpInd d => Sys2Proof.Machine.execOraDpInd d s
  | .oraSrIndY d => Sys2Proof.Machine.execOraSrIndY d s
  | .trbDp d => Sys2Proof.Machine.execTrbDp d s
  | .oraDpX d => Sys2Proof.Machine.execOraDpX d s
  | .aslDpX d => Sys2Proof.Machine.execAslDpX d s
  | .oraDpIndLY d => Sys2Proof.Machine.execOraDpIndLY d s
  | .clc => Sys2Proof.Machine.execClc s
  | .oraAbsY w => Sys2Proof.Machine.execOraAbsY w s
  | .incAcc => Sys2Proof.Machine.execIncAcc s
  | .tcs => Sys2Proof.Machine.execTcs s
  | .trbAbs w => Sys2Proof.Machine.execTrbAbs w s
  | .oraAbsX w => Sys2Proof.Machine.execOraAbsX w s
  | .aslAbsX w => Sys2Proof.Machine.execAslAbsX w s
  | .oraAbsLX l => Sys2Proof.Machine.execOraAbsLX l s
  | .jsrAbs w => Sys2Proof.Machine.execJsrAbs w s
  | .andDpXInd d => Sys2Proof.Machine.execAndDpXInd d s
  | .jsl l => Sys2Proof.Machine.execJsl l s
  | .andSr d => Sys2Proof.Machine.execAndSr d s
  | .bitDp d => Sys2Proof.Machine.execBitDp d s
  | .andDp d => Sys2Proof.Machine.execAndDp d s
  | .rolDp d => Sys2Proof.Machine.execRolDp d s
  | .andDpIndL d => Sys2Proof.Machine.execAndDpIndL d s
  | .plp => Sys2Proof.Machine.execPlp s
  | .andImm v => Sys2Proof.Machine.execAndImm v s
  | .rolAcc => Sys2Proof.Machine.execRolAcc s
  | .pld => Sys2Proof.Machine.execPld s
  | .bitAbs w => Sys2Proof.Machine.execBitAbs w s
  | .andAbs w => Sys2Proof.Machine.execAndAbs w s
  | .rolAbs w => Sys2Proof.Machine.execRolAbs w s
  | .andAbsL l => Sys2Proof.Machine.execAndAbsL l s
  | .bmi r => Sys2Proof.Machine.execBmi r s
  | .andDpIndY d => Sys2Proof.Machine.execAndDpIndY d s
  | .andDpInd d => Sys2Proof.Machine.execAndDpInd d s
  | .andSrIndY d => Sys2Proof.Machine.execAndSrIndY d s
  | .bitDpX d => Sys2Proof.Machine.execBitDpX d s
  | .andDpX d => Sys2Proof.Machine.execAndDpX d s
  | .rolDpX d => Sys2Proof.Machine.execRolDpX d s
  | .andDpIndLY d => Sys2Proof.Machine.execAndDpIndLY d s
  | .sec => Sys2Proof.Machine.execSec s
  | .andAbsY w => Sys2Proof.Machine.execAndAbsY w s
  | .decAcc => Sys2Proof.Machine.execDecAcc s
  | .tsc => Sys2Proof.Machine.execTsc s
  | .bitAbsX w => Sys2Proof.Machine.execBitAbsX w s
  | .andAbsX w => Sys2Proof.Machine.execAndAbsX w s
  | .rolAbsX w => Sys2Proof.Machine.execRolAbsX w s
  | .andAbsLX l => Sys2Proof.Machine.execAndAbsLX l s
  | .rti => Sys2Proof.Machine.execRti s
  | .eorDpXInd d => Sys2Proof.Machine.execEorDpXInd d s
  | .wdm k => Sys2Proof.Machine.execWdm k s
  | .eorSr d => Sys2Proof.Machine.execEorSr d s
  | .mvp dst src => Sys2Proof.Machine.execMvp dst src s
  | .eorDp d => Sys2Proof.Machine.execEorDp d s
  | .lsrDp d => Sys2Proof.Machine.execLsrDp d s
  | .eorDpIndL d => Sys2Proof.Machine.execEorDpIndL d s
  | .pha => Sys2Proof.Machine.execPha s
  | .eorImm v => Sys2Proof.Machine.execEorImm v s
  | .lsrAcc => Sys2Proof.Machine.execLsrAcc s
  | .phk => Sys2Proof.Machine.execPhk s
  | .jmpAbs w => Sys2Proof.Machine.execJmpAbs w s
  | .eorAbs w => Sys2Proof.Machine.execEorAbs w s
  | .lsrAbs w => Sys2Proof.Machine.execLsrAbs w s
  | .eorAbsL l => Sys2Proof.Machine.execEorAbsL l s
  | .bvc r => Sys2Proof.Machine.execBvc r s
  | .eorDpIndY d => Sys2Proof.Machine.execEorDpIndY d s
  | .eorDpInd d => Sys2Proof.Machine.execEorDpInd d s
  | .eorSrIndY d => Sys2Proof.Machine.execEorSrIndY d s
  | .mvn dst src => Sys2Proof.Machine.execMvn dst src s
  | .eorDpX d => Sys2Proof.Machine.execEorDpX d s
  | .lsrDpX d => Sys2Proof.Machine.execLsrDpX d s
  | .eorDpIndLY d => Sys2Proof.Machine.execEorDpIndLY d s
  | .cli => Sys2Proof.Machine.execCli s
  | .eorAbsY w => Sys2Proof.Machine.execEorAbsY w s
  | .phy => Sys2Proof.Machine.execPhy s
  | .tcd => Sys2Proof.Machine.execTcd s
  | .jmlLong l => Sys2Proof.Machine.execJmlLong l s
  | .eorAbsX w => Sys2Proof.Machine.execEorAbsX w s
  | .lsrAbsX w => Sys2Proof.Machine.execLsrAbsX w s
  | .eorAbsLX l => Sys2Proof.Machine.execEorAbsLX l s
  | .rts => Sys2Proof.Machine.execRts s
  | .adcDpXInd d => Sys2Proof.Machine.execAdcDpXInd d s
  | .per r => Sys2Proof.Machine.execPer r s
  | .adcSr d => Sys2Proof.Machine.execAdcSr d s
  | .stzDp d => Sys2Proof.Machine.execStzDp d s
  | .adcDp d => Sys2Proof.Machine.execAdcDp d s
  | .rorDp d => Sys2Proof.Machine.execRorDp d s
  | .adcDpIndL d => Sys2Proof.Machine.execAdcDpIndL d s
  | .pla => Sys2Proof.Machine.execPla s
  | .adcImm v => Sys2Proof.Machine.execAdcImm v s
  | .rorAcc => Sys2Proof.Machine.execRorAcc s
  | .rtl => Sys2Proof.Machine.execRtl s
  | .jmpInd p => Sys2Proof.Machine.execJmpInd p s
  | .adcAbs w => Sys2Proof.Machine.execAdcAbs w s
  | .rorAbs w => Sys2Proof.Machine.execRorAbs w s
  | .adcAbsL l => Sys2Proof.Machine.execAdcAbsL l s
  | .bvs r => Sys2Proof.Machine.execBvs r s
  | .adcDpIndY d => Sys2Proof.Machine.execAdcDpIndY d s
  | .adcDpInd d => Sys2Proof.Machine.execAdcDpInd d s
  | .adcSrIndY d => Sys2Proof.Machine.execAdcSrIndY d s
  | .stzDpX d => Sys2Proof.Machine.execStzDpX d s
  | .adcDpX d => Sys2Proof.Machine.execAdcDpX d s
  | .rorDpX d => Sys2Proof.Machine.execRorDpX d s
  | .adcDpIndLY d => Sys2Proof.Machine.execAdcDpIndLY d s
  | .sei => Sys2Proof.Machine.execSei s
  | .adcAbsY w => Sys2Proof.Machine.execAdcAbsY w s
  | .ply => Sys2Proof.Machine.execPly s
  | .tdc => Sys2Proof.Machine.execTdc s
  | .jmpXInd p => Sys2Proof.Machine.execJmpXInd p s
  | .adcAbsX w => Sys2Proof.Machine.execAdcAbsX w s
  | .rorAbsX w => Sys2Proof.Machine.execRorAbsX w s
  | .adcAbsLX l => Sys2Proof.Machine.execAdcAbsLX l s
  | .bra r => Sys2Proof.Machine.execBra r s
  | .staDpXInd d => Sys2Proof.Machine.execStaDpXInd d s
  | .brl r => Sys2Proof.Machine.execBrl r s
  | .staSr d => Sys2Proof.Machine.execStaSr d s
  | .styDp d => Sys2Proof.Machine.execStyDp d s
  | .staDp d => Sys2Proof.Machine.execStaDp d s
  | .stxDp d => Sys2Proof.Machine.execStxDp d s
  | .staDpIndL d => Sys2Proof.Machine.execStaDpIndL d s
  | .dey => Sys2Proof.Machine.execDey s
  | .bitImm v => Sys2Proof.Machine.execBitImm v s
  | .txa => Sys2Proof.Machine.execTxa s
  | .phb => Sys2Proof.Machine.execPhb s
  | .styAbs w => Sys2Proof.Machine.execStyAbs w s
  | .staAbs w => Sys2Proof.Machine.execStaAbs w s
  | .stxAbs w => Sys2Proof.Machine.execStxAbs w s
  | .staAbsL l => Sys2Proof.Machine.execStaAbsL l s
  | .bcc r => Sys2Proof.Machine.execBcc r s
  | .staDpIndY d => Sys2Proof.Machine.execStaDpIndY d s
  | .staDpInd d => Sys2Proof.Machine.execStaDpInd d s
  | .staSrIndY d => Sys2Proof.Machine.execStaSrIndY d s
  | .styDpX d => Sys2Proof.Machine.execStyDpX d s
  | .staDpX d => Sys2Proof.Machine.execStaDpX d s
  | .stxDpY d => Sys2Proof.Machine.execStxDpY d s
  | .staDpIndLY d => Sys2Proof.Machine.execStaDpIndLY d s
  | .tya => Sys2Proof.Machine.execTya s
  | .staAbsY w => Sys2Proof.Machine.execStaAbsY w s
  | .txs => Sys2Proof.Machine.execTxs s
  | .txy => Sys2Proof.Machine.execTxy s
  | .stzAbs w => Sys2Proof.Machine.execStzAbs w s
  | .staAbsX w => Sys2Proof.Machine.execStaAbsX w s
  | .stzAbsX w => Sys2Proof.Machine.execStzAbsX w s
  | .staAbsLX l => Sys2Proof.Machine.execStaAbsLX l s
  | .ldyImm v => Sys2Proof.Machine.execLdyImm v s
  | .ldaDpXInd d => Sys2Proof.Machine.execLdaDpXInd d s
  | .ldxImm v => Sys2Proof.Machine.execLdxImm v s
  | .ldaSr d => Sys2Proof.Machine.execLdaSr d s
  | .ldyDp d => Sys2Proof.Machine.execLdyDp d s
  | .ldaDp d => Sys2Proof.Machine.execLdaDp d s
  | .ldxDp d => Sys2Proof.Machine.execLdxDp d s
  | .ldaDpIndL d => Sys2Proof.Machine.execLdaDpIndL d s
  | .tay => Sys2Proof.Machine.execTay s
  | .ldaImm v => Sys2Proof.Machine.execLdaImm v s
  | .tax => Sys2Proof.Machine.execTax s
  | .plb => Sys2Proof.Machine.execPlb s
  | .ldyAbs w => Sys2Proof.Machine.execLdyAbs w s
  | .ldaAbs w => Sys2Proof.Machine.execLdaAbs w s
  | .ldxAbs w => Sys2Proof.Machine.execLdxAbs w s
  | .ldaAbsL l => Sys2Proof.Machine.execLdaAbsL l s
  | .bcs r => Sys2Proof.Machine.execBcs r s
  | .ldaDpIndY d => Sys2Proof.Machine.execLdaDpIndY d s
  | .ldaDpInd d => Sys2Proof.Machine.execLdaDpInd d s
  | .ldaSrIndY d => Sys2Proof.Machine.execLdaSrIndY d s
  | .ldyDpX d => Sys2Proof.Machine.execLdyDpX d s
  | .ldaDpX d => Sys2Proof.Machine.execLdaDpX d s
  | .ldxDpY d => Sys2Proof.Machine.execLdxDpY d s
  | .ldaDpIndLY d => Sys2Proof.Machine.execLdaDpIndLY d s
  | .clv => Sys2Proof.Machine.execClv s
  | .ldaAbsY w => Sys2Proof.Machine.execLdaAbsY w s
  | .tsx => Sys2Proof.Machine.execTsx s
  | .tyx => Sys2Proof.Machine.execTyx s
  | .ldyAbsX w => Sys2Proof.Machine.execLdyAbsX w s
  | .ldaAbsX w => Sys2Proof.Machine.execLdaAbsX w s
  | .ldxAbsY w => Sys2Proof.Machine.execLdxAbsY w s
  | .ldaAbsLX l => Sys2Proof.Machine.execLdaAbsLX l s
  | .cpyImm v => Sys2Proof.Machine.execCpyImm v s
  | .cmpDpXInd d => Sys2Proof.Machine.execCmpDpXInd d s
  | .rep k => Sys2Proof.Machine.execRep k s
  | .cmpSr d => Sys2Proof.Machine.execCmpSr d s
  | .cpyDp d => Sys2Proof.Machine.execCpyDp d s
  | .cmpDp d => Sys2Proof.Machine.execCmpDp d s
  | .decDp d => Sys2Proof.Machine.execDecDp d s
  | .cmpDpIndL d => Sys2Proof.Machine.execCmpDpIndL d s
  | .iny => Sys2Proof.Machine.execIny s
  | .cmpImm v => Sys2Proof.Machine.execCmpImm v s
  | .dex => Sys2Proof.Machine.execDex s
  | .wai => Sys2Proof.Machine.execWai s
  | .cpyAbs w => Sys2Proof.Machine.execCpyAbs w s
  | .cmpAbs w => Sys2Proof.Machine.execCmpAbs w s
  | .decAbs w => Sys2Proof.Machine.execDecAbs w s
  | .cmpAbsL l => Sys2Proof.Machine.execCmpAbsL l s
  | .bne r => Sys2Proof.Machine.execBne r s
  | .cmpDpIndY d => Sys2Proof.Machine.execCmpDpIndY d s
  | .cmpDpInd d => Sys2Proof.Machine.execCmpDpInd d s
  | .cmpSrIndY d => Sys2Proof.Machine.execCmpSrIndY d s
  | .pei d => Sys2Proof.Machine.execPei d s
  | .cmpDpX d => Sys2Proof.Machine.execCmpDpX d s
  | .decDpX d => Sys2Proof.Machine.execDecDpX d s
  | .cmpDpIndLY d => Sys2Proof.Machine.execCmpDpIndLY d s
  | .cld => Sys2Proof.Machine.execCld s
  | .cmpAbsY w => Sys2Proof.Machine.execCmpAbsY w s
  | .phx => Sys2Proof.Machine.execPhx s
  | .stp => Sys2Proof.Machine.execStp s
  | .jmlInd p => Sys2Proof.Machine.execJmlInd p s
  | .cmpAbsX w => Sys2Proof.Machine.execCmpAbsX w s
  | .decAbsX w => Sys2Proof.Machine.execDecAbsX w s
  | .cmpAbsLX l => Sys2Proof.Machine.execCmpAbsLX l s
  | .cpxImm v => Sys2Proof.Machine.execCpxImm v s
  | .sbcDpXInd d => Sys2Proof.Machine.execSbcDpXInd d s
  | .sep k => Sys2Proof.Machine.execSep k s
  | .sbcSr d => Sys2Proof.Machine.execSbcSr d s
  | .cpxDp d => Sys2Proof.Machine.execCpxDp d s
  | .sbcDp d => Sys2Proof.Machine.execSbcDp d s
  | .incDp d => Sys2Proof.Machine.execIncDp d s
  | .sbcDpIndL d => Sys2Proof.Machine.execSbcDpIndL d s
  | .inx => Sys2Proof.Machine.execInx s
  | .sbcImm v => Sys2Proof.Machine.execSbcImm v s
  | .nop => Sys2Proof.Machine.execNop s
  | .xba => Sys2Proof.Machine.execXba s
  | .cpxAbs w => Sys2Proof.Machine.execCpxAbs w s
  | .sbcAbs w => Sys2Proof.Machine.execSbcAbs w s
  | .incAbs w => Sys2Proof.Machine.execIncAbs w s
  | .sbcAbsL l => Sys2Proof.Machine.execSbcAbsL l s
  | .beq r => Sys2Proof.Machine.execBeq r s
  | .sbcDpIndY d => Sys2Proof.Machine.execSbcDpIndY d s
  | .sbcDpInd d => Sys2Proof.Machine.execSbcDpInd d s
  | .sbcSrIndY d => Sys2Proof.Machine.execSbcSrIndY d s
  | .pea w => Sys2Proof.Machine.execPea w s
  | .sbcDpX d => Sys2Proof.Machine.execSbcDpX d s
  | .incDpX d => Sys2Proof.Machine.execIncDpX d s
  | .sbcDpIndLY d => Sys2Proof.Machine.execSbcDpIndLY d s
  | .sed => Sys2Proof.Machine.execSed s
  | .sbcAbsY w => Sys2Proof.Machine.execSbcAbsY w s
  | .plx => Sys2Proof.Machine.execPlx s
  | .xce => Sys2Proof.Machine.execXce s
  | .jsrXInd p => Sys2Proof.Machine.execJsrXInd p s
  | .sbcAbsX w => Sys2Proof.Machine.execSbcAbsX w s
  | .incAbsX w => Sys2Proof.Machine.execIncAbsX w s
  | .sbcAbsLX l => Sys2Proof.Machine.execSbcAbsLX l s

end Sys2Proof.Machine
end

