-- ==== Sys2Proof/WellFormed.lean ====
section
/-! DEFINITION. WellFormed.lean: which instructions a CPU mode has (spec/30_encoding.md R132, R135).

Every field but an immediate is a bit vector of the field's own width, so the one thing an instruction can get wrong is
the width of its immediate: it is the width that M8 or X8 names when the instruction is fetched. -/

namespace Sys2Proof

/-- The immediate has one byte where the width is 8 bits, and two where it is 16. -/
def Imm.fits (eight : Bool) : Imm → Bool
  | .byte _ => eight
  | .word _ => !eight

/-- Well-formedness of an instruction in a mode with the given M8 and X8. -/
def Instr.wf (m8 x8 : Bool) : Instr → Bool
  | .brk _ => true
  | .oraDpXInd _ => true
  | .cop _ => true
  | .oraSr _ => true
  | .tsbDp _ => true
  | .oraDp _ => true
  | .aslDp _ => true
  | .oraDpIndL _ => true
  | .php => true
  | .oraImm v => v.fits m8
  | .aslAcc => true
  | .phd => true
  | .tsbAbs _ => true
  | .oraAbs _ => true
  | .aslAbs _ => true
  | .oraAbsL _ => true
  | .bpl _ => true
  | .oraDpIndY _ => true
  | .oraDpInd _ => true
  | .oraSrIndY _ => true
  | .trbDp _ => true
  | .oraDpX _ => true
  | .aslDpX _ => true
  | .oraDpIndLY _ => true
  | .clc => true
  | .oraAbsY _ => true
  | .incAcc => true
  | .tcs => true
  | .trbAbs _ => true
  | .oraAbsX _ => true
  | .aslAbsX _ => true
  | .oraAbsLX _ => true
  | .jsrAbs _ => true
  | .andDpXInd _ => true
  | .jsl _ => true
  | .andSr _ => true
  | .bitDp _ => true
  | .andDp _ => true
  | .rolDp _ => true
  | .andDpIndL _ => true
  | .plp => true
  | .andImm v => v.fits m8
  | .rolAcc => true
  | .pld => true
  | .bitAbs _ => true
  | .andAbs _ => true
  | .rolAbs _ => true
  | .andAbsL _ => true
  | .bmi _ => true
  | .andDpIndY _ => true
  | .andDpInd _ => true
  | .andSrIndY _ => true
  | .bitDpX _ => true
  | .andDpX _ => true
  | .rolDpX _ => true
  | .andDpIndLY _ => true
  | .sec => true
  | .andAbsY _ => true
  | .decAcc => true
  | .tsc => true
  | .bitAbsX _ => true
  | .andAbsX _ => true
  | .rolAbsX _ => true
  | .andAbsLX _ => true
  | .rti => true
  | .eorDpXInd _ => true
  | .wdm _ => true
  | .eorSr _ => true
  | .mvp _ _ => true
  | .eorDp _ => true
  | .lsrDp _ => true
  | .eorDpIndL _ => true
  | .pha => true
  | .eorImm v => v.fits m8
  | .lsrAcc => true
  | .phk => true
  | .jmpAbs _ => true
  | .eorAbs _ => true
  | .lsrAbs _ => true
  | .eorAbsL _ => true
  | .bvc _ => true
  | .eorDpIndY _ => true
  | .eorDpInd _ => true
  | .eorSrIndY _ => true
  | .mvn _ _ => true
  | .eorDpX _ => true
  | .lsrDpX _ => true
  | .eorDpIndLY _ => true
  | .cli => true
  | .eorAbsY _ => true
  | .phy => true
  | .tcd => true
  | .jmlLong _ => true
  | .eorAbsX _ => true
  | .lsrAbsX _ => true
  | .eorAbsLX _ => true
  | .rts => true
  | .adcDpXInd _ => true
  | .per _ => true
  | .adcSr _ => true
  | .stzDp _ => true
  | .adcDp _ => true
  | .rorDp _ => true
  | .adcDpIndL _ => true
  | .pla => true
  | .adcImm v => v.fits m8
  | .rorAcc => true
  | .rtl => true
  | .jmpInd _ => true
  | .adcAbs _ => true
  | .rorAbs _ => true
  | .adcAbsL _ => true
  | .bvs _ => true
  | .adcDpIndY _ => true
  | .adcDpInd _ => true
  | .adcSrIndY _ => true
  | .stzDpX _ => true
  | .adcDpX _ => true
  | .rorDpX _ => true
  | .adcDpIndLY _ => true
  | .sei => true
  | .adcAbsY _ => true
  | .ply => true
  | .tdc => true
  | .jmpXInd _ => true
  | .adcAbsX _ => true
  | .rorAbsX _ => true
  | .adcAbsLX _ => true
  | .bra _ => true
  | .staDpXInd _ => true
  | .brl _ => true
  | .staSr _ => true
  | .styDp _ => true
  | .staDp _ => true
  | .stxDp _ => true
  | .staDpIndL _ => true
  | .dey => true
  | .bitImm v => v.fits m8
  | .txa => true
  | .phb => true
  | .styAbs _ => true
  | .staAbs _ => true
  | .stxAbs _ => true
  | .staAbsL _ => true
  | .bcc _ => true
  | .staDpIndY _ => true
  | .staDpInd _ => true
  | .staSrIndY _ => true
  | .styDpX _ => true
  | .staDpX _ => true
  | .stxDpY _ => true
  | .staDpIndLY _ => true
  | .tya => true
  | .staAbsY _ => true
  | .txs => true
  | .txy => true
  | .stzAbs _ => true
  | .staAbsX _ => true
  | .stzAbsX _ => true
  | .staAbsLX _ => true
  | .ldyImm v => v.fits x8
  | .ldaDpXInd _ => true
  | .ldxImm v => v.fits x8
  | .ldaSr _ => true
  | .ldyDp _ => true
  | .ldaDp _ => true
  | .ldxDp _ => true
  | .ldaDpIndL _ => true
  | .tay => true
  | .ldaImm v => v.fits m8
  | .tax => true
  | .plb => true
  | .ldyAbs _ => true
  | .ldaAbs _ => true
  | .ldxAbs _ => true
  | .ldaAbsL _ => true
  | .bcs _ => true
  | .ldaDpIndY _ => true
  | .ldaDpInd _ => true
  | .ldaSrIndY _ => true
  | .ldyDpX _ => true
  | .ldaDpX _ => true
  | .ldxDpY _ => true
  | .ldaDpIndLY _ => true
  | .clv => true
  | .ldaAbsY _ => true
  | .tsx => true
  | .tyx => true
  | .ldyAbsX _ => true
  | .ldaAbsX _ => true
  | .ldxAbsY _ => true
  | .ldaAbsLX _ => true
  | .cpyImm v => v.fits x8
  | .cmpDpXInd _ => true
  | .rep _ => true
  | .cmpSr _ => true
  | .cpyDp _ => true
  | .cmpDp _ => true
  | .decDp _ => true
  | .cmpDpIndL _ => true
  | .iny => true
  | .cmpImm v => v.fits m8
  | .dex => true
  | .wai => true
  | .cpyAbs _ => true
  | .cmpAbs _ => true
  | .decAbs _ => true
  | .cmpAbsL _ => true
  | .bne _ => true
  | .cmpDpIndY _ => true
  | .cmpDpInd _ => true
  | .cmpSrIndY _ => true
  | .pei _ => true
  | .cmpDpX _ => true
  | .decDpX _ => true
  | .cmpDpIndLY _ => true
  | .cld => true
  | .cmpAbsY _ => true
  | .phx => true
  | .stp => true
  | .jmlInd _ => true
  | .cmpAbsX _ => true
  | .decAbsX _ => true
  | .cmpAbsLX _ => true
  | .cpxImm v => v.fits x8
  | .sbcDpXInd _ => true
  | .sep _ => true
  | .sbcSr _ => true
  | .cpxDp _ => true
  | .sbcDp _ => true
  | .incDp _ => true
  | .sbcDpIndL _ => true
  | .inx => true
  | .sbcImm v => v.fits m8
  | .nop => true
  | .xba => true
  | .cpxAbs _ => true
  | .sbcAbs _ => true
  | .incAbs _ => true
  | .sbcAbsL _ => true
  | .beq _ => true
  | .sbcDpIndY _ => true
  | .sbcDpInd _ => true
  | .sbcSrIndY _ => true
  | .pea _ => true
  | .sbcDpX _ => true
  | .incDpX _ => true
  | .sbcDpIndLY _ => true
  | .sed => true
  | .sbcAbsY _ => true
  | .plx => true
  | .xce => true
  | .jsrXInd _ => true
  | .sbcAbsX _ => true
  | .incAbsX _ => true
  | .sbcAbsLX _ => true

end Sys2Proof
end

