-- ==== Sys2Proof/Decode.lean ====
section
/-! DEFINITION. Decode.lean: from bytes to an instruction, total on any bytes, and back (spec/30_encoding.md).

Every byte value is the opcode of an instruction (R136, R138), so the one thing that is refused is a list of bytes that
ends too early. -/

namespace Sys2Proof

open Machine (lo hi join addr bankOf offOf)

/-- Why a list of bytes is no instruction. -/
inductive DecodeError where
  /-- there is no opcode byte -/
  | noOpcode
  /-- the operand bytes that the opcode's format asks for are not all there -/
  | operandMissing
  deriving DecidableEq, Repr

/-- The operand field of an opcode, with the instruction it makes (30_encoding.md R131). -/
inductive Form where
  /-- no operand: IMP, ACC -/
  | op0 (i : Instr)
  /-- one byte: IMM_8, REL8, the direct-page and stack-relative modes -/
  | op1 (f : Byte → Instr)
  /-- two bytes: IMM_16, REL16, the absolute modes -/
  | op2 (f : Word → Instr)
  /-- three bytes: the long modes -/
  | op3 (f : Addr → Instr)
  /-- destination bank, then source bank: BLK (30_encoding.md R134) -/
  | blk (f : Byte → Byte → Instr)
  /-- an immediate of the accumulator's width: IMM_M -/
  | immM (f : Imm → Instr)
  /-- an immediate of the index registers' width: IMM_X -/
  | immX (f : Imm → Instr)

/-! ### The opcode map, one list per row of 30_encoding.md R136 -/

/-- Row 0x of the opcode map. -/
def opcodes0 : List Form := [
  .op1 .brk, .op1 .oraDpXInd, .op1 .cop, .op1 .oraSr, .op1 .tsbDp, .op1 .oraDp, .op1 .aslDp, .op1 .oraDpIndL,
  .op0 .php, .immM .oraImm, .op0 .aslAcc, .op0 .phd, .op2 .tsbAbs, .op2 .oraAbs, .op2 .aslAbs, .op3 .oraAbsL]

/-- Row 1x of the opcode map. -/
def opcodes1 : List Form := [
  .op1 .bpl, .op1 .oraDpIndY, .op1 .oraDpInd, .op1 .oraSrIndY, .op1 .trbDp, .op1 .oraDpX, .op1 .aslDpX,
  .op1 .oraDpIndLY, .op0 .clc, .op2 .oraAbsY, .op0 .incAcc, .op0 .tcs, .op2 .trbAbs, .op2 .oraAbsX, .op2 .aslAbsX,
  .op3 .oraAbsLX]

/-- Row 2x of the opcode map. -/
def opcodes2 : List Form := [
  .op2 .jsrAbs, .op1 .andDpXInd, .op3 .jsl, .op1 .andSr, .op1 .bitDp, .op1 .andDp, .op1 .rolDp, .op1 .andDpIndL,
  .op0 .plp, .immM .andImm, .op0 .rolAcc, .op0 .pld, .op2 .bitAbs, .op2 .andAbs, .op2 .rolAbs, .op3 .andAbsL]

/-- Row 3x of the opcode map. -/
def opcodes3 : List Form := [
  .op1 .bmi, .op1 .andDpIndY, .op1 .andDpInd, .op1 .andSrIndY, .op1 .bitDpX, .op1 .andDpX, .op1 .rolDpX,
  .op1 .andDpIndLY, .op0 .sec, .op2 .andAbsY, .op0 .decAcc, .op0 .tsc, .op2 .bitAbsX, .op2 .andAbsX, .op2 .rolAbsX,
  .op3 .andAbsLX]

/-- Row 4x of the opcode map. -/
def opcodes4 : List Form := [
  .op0 .rti, .op1 .eorDpXInd, .op1 .wdm, .op1 .eorSr, .blk .mvp, .op1 .eorDp, .op1 .lsrDp, .op1 .eorDpIndL,
  .op0 .pha, .immM .eorImm, .op0 .lsrAcc, .op0 .phk, .op2 .jmpAbs, .op2 .eorAbs, .op2 .lsrAbs, .op3 .eorAbsL]

/-- Row 5x of the opcode map. -/
def opcodes5 : List Form := [
  .op1 .bvc, .op1 .eorDpIndY, .op1 .eorDpInd, .op1 .eorSrIndY, .blk .mvn, .op1 .eorDpX, .op1 .lsrDpX,
  .op1 .eorDpIndLY, .op0 .cli, .op2 .eorAbsY, .op0 .phy, .op0 .tcd, .op3 .jmlLong, .op2 .eorAbsX, .op2 .lsrAbsX,
  .op3 .eorAbsLX]

/-- Row 6x of the opcode map. -/
def opcodes6 : List Form := [
  .op0 .rts, .op1 .adcDpXInd, .op2 .per, .op1 .adcSr, .op1 .stzDp, .op1 .adcDp, .op1 .rorDp, .op1 .adcDpIndL,
  .op0 .pla, .immM .adcImm, .op0 .rorAcc, .op0 .rtl, .op2 .jmpInd, .op2 .adcAbs, .op2 .rorAbs, .op3 .adcAbsL]

/-- Row 7x of the opcode map. -/
def opcodes7 : List Form := [
  .op1 .bvs, .op1 .adcDpIndY, .op1 .adcDpInd, .op1 .adcSrIndY, .op1 .stzDpX, .op1 .adcDpX, .op1 .rorDpX,
  .op1 .adcDpIndLY, .op0 .sei, .op2 .adcAbsY, .op0 .ply, .op0 .tdc, .op2 .jmpXInd, .op2 .adcAbsX, .op2 .rorAbsX,
  .op3 .adcAbsLX]

/-- Row 8x of the opcode map. -/
def opcodes8 : List Form := [
  .op1 .bra, .op1 .staDpXInd, .op2 .brl, .op1 .staSr, .op1 .styDp, .op1 .staDp, .op1 .stxDp, .op1 .staDpIndL,
  .op0 .dey, .immM .bitImm, .op0 .txa, .op0 .phb, .op2 .styAbs, .op2 .staAbs, .op2 .stxAbs, .op3 .staAbsL]

/-- Row 9x of the opcode map. -/
def opcodes9 : List Form := [
  .op1 .bcc, .op1 .staDpIndY, .op1 .staDpInd, .op1 .staSrIndY, .op1 .styDpX, .op1 .staDpX, .op1 .stxDpY,
  .op1 .staDpIndLY, .op0 .tya, .op2 .staAbsY, .op0 .txs, .op0 .txy, .op2 .stzAbs, .op2 .staAbsX, .op2 .stzAbsX,
  .op3 .staAbsLX]

/-- Row Ax of the opcode map. -/
def opcodesA : List Form := [
  .immX .ldyImm, .op1 .ldaDpXInd, .immX .ldxImm, .op1 .ldaSr, .op1 .ldyDp, .op1 .ldaDp, .op1 .ldxDp, .op1 .ldaDpIndL,
  .op0 .tay, .immM .ldaImm, .op0 .tax, .op0 .plb, .op2 .ldyAbs, .op2 .ldaAbs, .op2 .ldxAbs, .op3 .ldaAbsL]

/-- Row Bx of the opcode map. -/
def opcodesB : List Form := [
  .op1 .bcs, .op1 .ldaDpIndY, .op1 .ldaDpInd, .op1 .ldaSrIndY, .op1 .ldyDpX, .op1 .ldaDpX, .op1 .ldxDpY,
  .op1 .ldaDpIndLY, .op0 .clv, .op2 .ldaAbsY, .op0 .tsx, .op0 .tyx, .op2 .ldyAbsX, .op2 .ldaAbsX, .op2 .ldxAbsY,
  .op3 .ldaAbsLX]

/-- Row Cx of the opcode map. -/
def opcodesC : List Form := [
  .immX .cpyImm, .op1 .cmpDpXInd, .op1 .rep, .op1 .cmpSr, .op1 .cpyDp, .op1 .cmpDp, .op1 .decDp, .op1 .cmpDpIndL,
  .op0 .iny, .immM .cmpImm, .op0 .dex, .op0 .wai, .op2 .cpyAbs, .op2 .cmpAbs, .op2 .decAbs, .op3 .cmpAbsL]

/-- Row Dx of the opcode map. -/
def opcodesD : List Form := [
  .op1 .bne, .op1 .cmpDpIndY, .op1 .cmpDpInd, .op1 .cmpSrIndY, .op1 .pei, .op1 .cmpDpX, .op1 .decDpX,
  .op1 .cmpDpIndLY, .op0 .cld, .op2 .cmpAbsY, .op0 .phx, .op0 .stp, .op2 .jmlInd, .op2 .cmpAbsX, .op2 .decAbsX,
  .op3 .cmpAbsLX]

/-- Row Ex of the opcode map. -/
def opcodesE : List Form := [
  .immX .cpxImm, .op1 .sbcDpXInd, .op1 .sep, .op1 .sbcSr, .op1 .cpxDp, .op1 .sbcDp, .op1 .incDp, .op1 .sbcDpIndL,
  .op0 .inx, .immM .sbcImm, .op0 .nop, .op0 .xba, .op2 .cpxAbs, .op2 .sbcAbs, .op2 .incAbs, .op3 .sbcAbsL]

/-- Row Fx of the opcode map. -/
def opcodesF : List Form := [
  .op1 .beq, .op1 .sbcDpIndY, .op1 .sbcDpInd, .op1 .sbcSrIndY, .op2 .pea, .op1 .sbcDpX, .op1 .incDpX,
  .op1 .sbcDpIndLY, .op0 .sed, .op2 .sbcAbsY, .op0 .plx, .op0 .xce, .op2 .jsrXInd, .op2 .sbcAbsX, .op2 .incAbsX,
  .op3 .sbcAbsLX]

/-- The opcode map (30_encoding.md R136). -/
def opcodeMap : List Form :=
  opcodes0 ++ opcodes1 ++ opcodes2 ++ opcodes3 ++ opcodes4 ++ opcodes5 ++ opcodes6 ++ opcodes7 ++
    opcodes8 ++ opcodes9 ++ opcodesA ++ opcodesB ++ opcodesC ++ opcodesD ++ opcodesE ++ opcodesF

/-- Every byte value is assigned (30_encoding.md R136). -/
theorem opcodeMap_length : opcodeMap.length = 256 := by
  simp only [opcodeMap, List.length_append]
  rfl

/-- The form of an opcode (30_encoding.md R137: decode needs only the opcode byte). -/
def formOf (op : Byte) : Form := opcodeMap[op.toNat]'(by rw [opcodeMap_length]; exact op.isLt)

/-- `OperandBytes(Format(op), M8, X8)` (30_encoding.md R135). -/
def Form.operandBytes (m8 x8 : Bool) : Form → Nat
  | .op0 _ => 0
  | .op1 _ => 1
  | .op2 _ => 2
  | .op3 _ => 3
  | .blk _ => 2
  | .immM _ => if m8 then 1 else 2
  | .immX _ => if x8 then 1 else 2

/-- `Len(op, M8, X8)` (30_encoding.md R135). -/
def instrLen (m8 x8 : Bool) (op : Byte) : Nat := 1 + (formOf op).operandBytes m8 x8

/-! ### Decoding -/

/-- An immediate of one byte or two, low byte first (30_encoding.md R133). -/
def decodeImm (eight : Bool) (f : Imm → Instr) (bytes : List Byte) : Except DecodeError (Instr × List Byte) :=
  match eight, bytes with
  | true, b :: rest => .ok (f (.byte b), rest)
  | false, l :: h :: rest => .ok (f (.word (join h l)), rest)
  | _, _ => .error .operandMissing

/-- The operand field of a form, taken from the bytes after the opcode (30_encoding.md R131, R133, R134). -/
def decodeForm (m8 x8 : Bool) (form : Form) (bytes : List Byte) : Except DecodeError (Instr × List Byte) :=
  match form with
  | .op0 i => .ok (i, bytes)
  | .op1 f =>
    match bytes with
    | b :: rest => .ok (f b, rest)
    | [] => .error .operandMissing
  | .op2 f =>
    match bytes with
    | l :: h :: rest => .ok (f (join h l), rest)
    | _ => .error .operandMissing
  | .op3 f =>
    match bytes with
    | l :: h :: b :: rest => .ok (f (addr b (join h l)), rest)
    | _ => .error .operandMissing
  | .blk f =>
    match bytes with
    | dst :: src :: rest => .ok (f dst src, rest)
    | _ => .error .operandMissing
  | .immM f => decodeImm m8 f bytes
  | .immX f => decodeImm x8 f bytes

/-- The instruction at the head of a list of bytes, in a mode with the given M8 and X8, and the bytes after it. -/
def decode (m8 x8 : Bool) (bytes : List Byte) : Except DecodeError (Instr × List Byte) :=
  match bytes with
  | [] => .error .noOpcode
  | op :: rest => decodeForm m8 x8 (formOf op) rest

/-! ### Encoding -/

/-- The opcode byte of an instruction (30_encoding.md R136). -/
def Instr.opcode : Instr → Byte
  | .brk _ => 0x00
  | .oraDpXInd _ => 0x01
  | .cop _ => 0x02
  | .oraSr _ => 0x03
  | .tsbDp _ => 0x04
  | .oraDp _ => 0x05
  | .aslDp _ => 0x06
  | .oraDpIndL _ => 0x07
  | .php => 0x08
  | .oraImm _ => 0x09
  | .aslAcc => 0x0A
  | .phd => 0x0B
  | .tsbAbs _ => 0x0C
  | .oraAbs _ => 0x0D
  | .aslAbs _ => 0x0E
  | .oraAbsL _ => 0x0F
  | .bpl _ => 0x10
  | .oraDpIndY _ => 0x11
  | .oraDpInd _ => 0x12
  | .oraSrIndY _ => 0x13
  | .trbDp _ => 0x14
  | .oraDpX _ => 0x15
  | .aslDpX _ => 0x16
  | .oraDpIndLY _ => 0x17
  | .clc => 0x18
  | .oraAbsY _ => 0x19
  | .incAcc => 0x1A
  | .tcs => 0x1B
  | .trbAbs _ => 0x1C
  | .oraAbsX _ => 0x1D
  | .aslAbsX _ => 0x1E
  | .oraAbsLX _ => 0x1F
  | .jsrAbs _ => 0x20
  | .andDpXInd _ => 0x21
  | .jsl _ => 0x22
  | .andSr _ => 0x23
  | .bitDp _ => 0x24
  | .andDp _ => 0x25
  | .rolDp _ => 0x26
  | .andDpIndL _ => 0x27
  | .plp => 0x28
  | .andImm _ => 0x29
  | .rolAcc => 0x2A
  | .pld => 0x2B
  | .bitAbs _ => 0x2C
  | .andAbs _ => 0x2D
  | .rolAbs _ => 0x2E
  | .andAbsL _ => 0x2F
  | .bmi _ => 0x30
  | .andDpIndY _ => 0x31
  | .andDpInd _ => 0x32
  | .andSrIndY _ => 0x33
  | .bitDpX _ => 0x34
  | .andDpX _ => 0x35
  | .rolDpX _ => 0x36
  | .andDpIndLY _ => 0x37
  | .sec => 0x38
  | .andAbsY _ => 0x39
  | .decAcc => 0x3A
  | .tsc => 0x3B
  | .bitAbsX _ => 0x3C
  | .andAbsX _ => 0x3D
  | .rolAbsX _ => 0x3E
  | .andAbsLX _ => 0x3F
  | .rti => 0x40
  | .eorDpXInd _ => 0x41
  | .wdm _ => 0x42
  | .eorSr _ => 0x43
  | .mvp _ _ => 0x44
  | .eorDp _ => 0x45
  | .lsrDp _ => 0x46
  | .eorDpIndL _ => 0x47
  | .pha => 0x48
  | .eorImm _ => 0x49
  | .lsrAcc => 0x4A
  | .phk => 0x4B
  | .jmpAbs _ => 0x4C
  | .eorAbs _ => 0x4D
  | .lsrAbs _ => 0x4E
  | .eorAbsL _ => 0x4F
  | .bvc _ => 0x50
  | .eorDpIndY _ => 0x51
  | .eorDpInd _ => 0x52
  | .eorSrIndY _ => 0x53
  | .mvn _ _ => 0x54
  | .eorDpX _ => 0x55
  | .lsrDpX _ => 0x56
  | .eorDpIndLY _ => 0x57
  | .cli => 0x58
  | .eorAbsY _ => 0x59
  | .phy => 0x5A
  | .tcd => 0x5B
  | .jmlLong _ => 0x5C
  | .eorAbsX _ => 0x5D
  | .lsrAbsX _ => 0x5E
  | .eorAbsLX _ => 0x5F
  | .rts => 0x60
  | .adcDpXInd _ => 0x61
  | .per _ => 0x62
  | .adcSr _ => 0x63
  | .stzDp _ => 0x64
  | .adcDp _ => 0x65
  | .rorDp _ => 0x66
  | .adcDpIndL _ => 0x67
  | .pla => 0x68
  | .adcImm _ => 0x69
  | .rorAcc => 0x6A
  | .rtl => 0x6B
  | .jmpInd _ => 0x6C
  | .adcAbs _ => 0x6D
  | .rorAbs _ => 0x6E
  | .adcAbsL _ => 0x6F
  | .bvs _ => 0x70
  | .adcDpIndY _ => 0x71
  | .adcDpInd _ => 0x72
  | .adcSrIndY _ => 0x73
  | .stzDpX _ => 0x74
  | .adcDpX _ => 0x75
  | .rorDpX _ => 0x76
  | .adcDpIndLY _ => 0x77
  | .sei => 0x78
  | .adcAbsY _ => 0x79
  | .ply => 0x7A
  | .tdc => 0x7B
  | .jmpXInd _ => 0x7C
  | .adcAbsX _ => 0x7D
  | .rorAbsX _ => 0x7E
  | .adcAbsLX _ => 0x7F
  | .bra _ => 0x80
  | .staDpXInd _ => 0x81
  | .brl _ => 0x82
  | .staSr _ => 0x83
  | .styDp _ => 0x84
  | .staDp _ => 0x85
  | .stxDp _ => 0x86
  | .staDpIndL _ => 0x87
  | .dey => 0x88
  | .bitImm _ => 0x89
  | .txa => 0x8A
  | .phb => 0x8B
  | .styAbs _ => 0x8C
  | .staAbs _ => 0x8D
  | .stxAbs _ => 0x8E
  | .staAbsL _ => 0x8F
  | .bcc _ => 0x90
  | .staDpIndY _ => 0x91
  | .staDpInd _ => 0x92
  | .staSrIndY _ => 0x93
  | .styDpX _ => 0x94
  | .staDpX _ => 0x95
  | .stxDpY _ => 0x96
  | .staDpIndLY _ => 0x97
  | .tya => 0x98
  | .staAbsY _ => 0x99
  | .txs => 0x9A
  | .txy => 0x9B
  | .stzAbs _ => 0x9C
  | .staAbsX _ => 0x9D
  | .stzAbsX _ => 0x9E
  | .staAbsLX _ => 0x9F
  | .ldyImm _ => 0xA0
  | .ldaDpXInd _ => 0xA1
  | .ldxImm _ => 0xA2
  | .ldaSr _ => 0xA3
  | .ldyDp _ => 0xA4
  | .ldaDp _ => 0xA5
  | .ldxDp _ => 0xA6
  | .ldaDpIndL _ => 0xA7
  | .tay => 0xA8
  | .ldaImm _ => 0xA9
  | .tax => 0xAA
  | .plb => 0xAB
  | .ldyAbs _ => 0xAC
  | .ldaAbs _ => 0xAD
  | .ldxAbs _ => 0xAE
  | .ldaAbsL _ => 0xAF
  | .bcs _ => 0xB0
  | .ldaDpIndY _ => 0xB1
  | .ldaDpInd _ => 0xB2
  | .ldaSrIndY _ => 0xB3
  | .ldyDpX _ => 0xB4
  | .ldaDpX _ => 0xB5
  | .ldxDpY _ => 0xB6
  | .ldaDpIndLY _ => 0xB7
  | .clv => 0xB8
  | .ldaAbsY _ => 0xB9
  | .tsx => 0xBA
  | .tyx => 0xBB
  | .ldyAbsX _ => 0xBC
  | .ldaAbsX _ => 0xBD
  | .ldxAbsY _ => 0xBE
  | .ldaAbsLX _ => 0xBF
  | .cpyImm _ => 0xC0
  | .cmpDpXInd _ => 0xC1
  | .rep _ => 0xC2
  | .cmpSr _ => 0xC3
  | .cpyDp _ => 0xC4
  | .cmpDp _ => 0xC5
  | .decDp _ => 0xC6
  | .cmpDpIndL _ => 0xC7
  | .iny => 0xC8
  | .cmpImm _ => 0xC9
  | .dex => 0xCA
  | .wai => 0xCB
  | .cpyAbs _ => 0xCC
  | .cmpAbs _ => 0xCD
  | .decAbs _ => 0xCE
  | .cmpAbsL _ => 0xCF
  | .bne _ => 0xD0
  | .cmpDpIndY _ => 0xD1
  | .cmpDpInd _ => 0xD2
  | .cmpSrIndY _ => 0xD3
  | .pei _ => 0xD4
  | .cmpDpX _ => 0xD5
  | .decDpX _ => 0xD6
  | .cmpDpIndLY _ => 0xD7
  | .cld => 0xD8
  | .cmpAbsY _ => 0xD9
  | .phx => 0xDA
  | .stp => 0xDB
  | .jmlInd _ => 0xDC
  | .cmpAbsX _ => 0xDD
  | .decAbsX _ => 0xDE
  | .cmpAbsLX _ => 0xDF
  | .cpxImm _ => 0xE0
  | .sbcDpXInd _ => 0xE1
  | .sep _ => 0xE2
  | .sbcSr _ => 0xE3
  | .cpxDp _ => 0xE4
  | .sbcDp _ => 0xE5
  | .incDp _ => 0xE6
  | .sbcDpIndL _ => 0xE7
  | .inx => 0xE8
  | .sbcImm _ => 0xE9
  | .nop => 0xEA
  | .xba => 0xEB
  | .cpxAbs _ => 0xEC
  | .sbcAbs _ => 0xED
  | .incAbs _ => 0xEE
  | .sbcAbsL _ => 0xEF
  | .beq _ => 0xF0
  | .sbcDpIndY _ => 0xF1
  | .sbcDpInd _ => 0xF2
  | .sbcSrIndY _ => 0xF3
  | .pea _ => 0xF4
  | .sbcDpX _ => 0xF5
  | .incDpX _ => 0xF6
  | .sbcDpIndLY _ => 0xF7
  | .sed => 0xF8
  | .sbcAbsY _ => 0xF9
  | .plx => 0xFA
  | .xce => 0xFB
  | .jsrXInd _ => 0xFC
  | .sbcAbsX _ => 0xFD
  | .incAbsX _ => 0xFE
  | .sbcAbsLX _ => 0xFF

/-- The operand bytes of an immediate, low byte first (30_encoding.md R133). -/
def Imm.bytes : Imm → List Byte
  | .byte v => [v]
  | .word v => [lo v, hi v]

/-- The bytes of a 16-bit operand field, low byte first (30_encoding.md R133). -/
def wordBytes (w : Word) : List Byte := [lo w, hi w]

/-- The bytes of a 24-bit operand field, bank byte last (30_encoding.md R133). -/
def addrBytes (l : Addr) : List Byte := [lo (offOf l), hi (offOf l), bankOf l]

/-- The operand bytes of an instruction (30_encoding.md R131). -/
def Instr.operand : Instr → List Byte
  | .brk k => [k]
  | .oraDpXInd d => [d]
  | .cop k => [k]
  | .oraSr d => [d]
  | .tsbDp d => [d]
  | .oraDp d => [d]
  | .aslDp d => [d]
  | .oraDpIndL d => [d]
  | .php => []
  | .oraImm v => v.bytes
  | .aslAcc => []
  | .phd => []
  | .tsbAbs w => wordBytes w
  | .oraAbs w => wordBytes w
  | .aslAbs w => wordBytes w
  | .oraAbsL l => addrBytes l
  | .bpl r => [r]
  | .oraDpIndY d => [d]
  | .oraDpInd d => [d]
  | .oraSrIndY d => [d]
  | .trbDp d => [d]
  | .oraDpX d => [d]
  | .aslDpX d => [d]
  | .oraDpIndLY d => [d]
  | .clc => []
  | .oraAbsY w => wordBytes w
  | .incAcc => []
  | .tcs => []
  | .trbAbs w => wordBytes w
  | .oraAbsX w => wordBytes w
  | .aslAbsX w => wordBytes w
  | .oraAbsLX l => addrBytes l
  | .jsrAbs w => wordBytes w
  | .andDpXInd d => [d]
  | .jsl l => addrBytes l
  | .andSr d => [d]
  | .bitDp d => [d]
  | .andDp d => [d]
  | .rolDp d => [d]
  | .andDpIndL d => [d]
  | .plp => []
  | .andImm v => v.bytes
  | .rolAcc => []
  | .pld => []
  | .bitAbs w => wordBytes w
  | .andAbs w => wordBytes w
  | .rolAbs w => wordBytes w
  | .andAbsL l => addrBytes l
  | .bmi r => [r]
  | .andDpIndY d => [d]
  | .andDpInd d => [d]
  | .andSrIndY d => [d]
  | .bitDpX d => [d]
  | .andDpX d => [d]
  | .rolDpX d => [d]
  | .andDpIndLY d => [d]
  | .sec => []
  | .andAbsY w => wordBytes w
  | .decAcc => []
  | .tsc => []
  | .bitAbsX w => wordBytes w
  | .andAbsX w => wordBytes w
  | .rolAbsX w => wordBytes w
  | .andAbsLX l => addrBytes l
  | .rti => []
  | .eorDpXInd d => [d]
  | .wdm k => [k]
  | .eorSr d => [d]
  | .mvp dst src => [dst, src]
  | .eorDp d => [d]
  | .lsrDp d => [d]
  | .eorDpIndL d => [d]
  | .pha => []
  | .eorImm v => v.bytes
  | .lsrAcc => []
  | .phk => []
  | .jmpAbs w => wordBytes w
  | .eorAbs w => wordBytes w
  | .lsrAbs w => wordBytes w
  | .eorAbsL l => addrBytes l
  | .bvc r => [r]
  | .eorDpIndY d => [d]
  | .eorDpInd d => [d]
  | .eorSrIndY d => [d]
  | .mvn dst src => [dst, src]
  | .eorDpX d => [d]
  | .lsrDpX d => [d]
  | .eorDpIndLY d => [d]
  | .cli => []
  | .eorAbsY w => wordBytes w
  | .phy => []
  | .tcd => []
  | .jmlLong l => addrBytes l
  | .eorAbsX w => wordBytes w
  | .lsrAbsX w => wordBytes w
  | .eorAbsLX l => addrBytes l
  | .rts => []
  | .adcDpXInd d => [d]
  | .per r => wordBytes r
  | .adcSr d => [d]
  | .stzDp d => [d]
  | .adcDp d => [d]
  | .rorDp d => [d]
  | .adcDpIndL d => [d]
  | .pla => []
  | .adcImm v => v.bytes
  | .rorAcc => []
  | .rtl => []
  | .jmpInd p => wordBytes p
  | .adcAbs w => wordBytes w
  | .rorAbs w => wordBytes w
  | .adcAbsL l => addrBytes l
  | .bvs r => [r]
  | .adcDpIndY d => [d]
  | .adcDpInd d => [d]
  | .adcSrIndY d => [d]
  | .stzDpX d => [d]
  | .adcDpX d => [d]
  | .rorDpX d => [d]
  | .adcDpIndLY d => [d]
  | .sei => []
  | .adcAbsY w => wordBytes w
  | .ply => []
  | .tdc => []
  | .jmpXInd p => wordBytes p
  | .adcAbsX w => wordBytes w
  | .rorAbsX w => wordBytes w
  | .adcAbsLX l => addrBytes l
  | .bra r => [r]
  | .staDpXInd d => [d]
  | .brl r => wordBytes r
  | .staSr d => [d]
  | .styDp d => [d]
  | .staDp d => [d]
  | .stxDp d => [d]
  | .staDpIndL d => [d]
  | .dey => []
  | .bitImm v => v.bytes
  | .txa => []
  | .phb => []
  | .styAbs w => wordBytes w
  | .staAbs w => wordBytes w
  | .stxAbs w => wordBytes w
  | .staAbsL l => addrBytes l
  | .bcc r => [r]
  | .staDpIndY d => [d]
  | .staDpInd d => [d]
  | .staSrIndY d => [d]
  | .styDpX d => [d]
  | .staDpX d => [d]
  | .stxDpY d => [d]
  | .staDpIndLY d => [d]
  | .tya => []
  | .staAbsY w => wordBytes w
  | .txs => []
  | .txy => []
  | .stzAbs w => wordBytes w
  | .staAbsX w => wordBytes w
  | .stzAbsX w => wordBytes w
  | .staAbsLX l => addrBytes l
  | .ldyImm v => v.bytes
  | .ldaDpXInd d => [d]
  | .ldxImm v => v.bytes
  | .ldaSr d => [d]
  | .ldyDp d => [d]
  | .ldaDp d => [d]
  | .ldxDp d => [d]
  | .ldaDpIndL d => [d]
  | .tay => []
  | .ldaImm v => v.bytes
  | .tax => []
  | .plb => []
  | .ldyAbs w => wordBytes w
  | .ldaAbs w => wordBytes w
  | .ldxAbs w => wordBytes w
  | .ldaAbsL l => addrBytes l
  | .bcs r => [r]
  | .ldaDpIndY d => [d]
  | .ldaDpInd d => [d]
  | .ldaSrIndY d => [d]
  | .ldyDpX d => [d]
  | .ldaDpX d => [d]
  | .ldxDpY d => [d]
  | .ldaDpIndLY d => [d]
  | .clv => []
  | .ldaAbsY w => wordBytes w
  | .tsx => []
  | .tyx => []
  | .ldyAbsX w => wordBytes w
  | .ldaAbsX w => wordBytes w
  | .ldxAbsY w => wordBytes w
  | .ldaAbsLX l => addrBytes l
  | .cpyImm v => v.bytes
  | .cmpDpXInd d => [d]
  | .rep k => [k]
  | .cmpSr d => [d]
  | .cpyDp d => [d]
  | .cmpDp d => [d]
  | .decDp d => [d]
  | .cmpDpIndL d => [d]
  | .iny => []
  | .cmpImm v => v.bytes
  | .dex => []
  | .wai => []
  | .cpyAbs w => wordBytes w
  | .cmpAbs w => wordBytes w
  | .decAbs w => wordBytes w
  | .cmpAbsL l => addrBytes l
  | .bne r => [r]
  | .cmpDpIndY d => [d]
  | .cmpDpInd d => [d]
  | .cmpSrIndY d => [d]
  | .pei d => [d]
  | .cmpDpX d => [d]
  | .decDpX d => [d]
  | .cmpDpIndLY d => [d]
  | .cld => []
  | .cmpAbsY w => wordBytes w
  | .phx => []
  | .stp => []
  | .jmlInd p => wordBytes p
  | .cmpAbsX w => wordBytes w
  | .decAbsX w => wordBytes w
  | .cmpAbsLX l => addrBytes l
  | .cpxImm v => v.bytes
  | .sbcDpXInd d => [d]
  | .sep k => [k]
  | .sbcSr d => [d]
  | .cpxDp d => [d]
  | .sbcDp d => [d]
  | .incDp d => [d]
  | .sbcDpIndL d => [d]
  | .inx => []
  | .sbcImm v => v.bytes
  | .nop => []
  | .xba => []
  | .cpxAbs w => wordBytes w
  | .sbcAbs w => wordBytes w
  | .incAbs w => wordBytes w
  | .sbcAbsL l => addrBytes l
  | .beq r => [r]
  | .sbcDpIndY d => [d]
  | .sbcDpInd d => [d]
  | .sbcSrIndY d => [d]
  | .pea w => wordBytes w
  | .sbcDpX d => [d]
  | .incDpX d => [d]
  | .sbcDpIndLY d => [d]
  | .sed => []
  | .sbcAbsY w => wordBytes w
  | .plx => []
  | .xce => []
  | .jsrXInd p => wordBytes p
  | .sbcAbsX w => wordBytes w
  | .incAbsX w => wordBytes w
  | .sbcAbsLX l => addrBytes l

/-- The bytes of an instruction at increasing addresses (30_encoding.md R130). -/
def encode (i : Instr) : List Byte := i.opcode :: i.operand

/-! ### The opcode table's own numbering of bits -/

/-- The four bytes at increasing addresses of an instruction whose bits, numbered as spec/opcode_table.json numbers
them, are the low `nbits` bits of `w`; every bit above them is 0. -/
def tableBytes (nbits w : Nat) : List Byte :=
  [0, 1, 2, 3].map fun k => BitVec.ofNat 8 (w % 2 ^ nbits / 256 ^ k)

/-- The instruction the decoder reads from an instruction of spec/opcode_table.json, in the mode right after reset:
M8 and X8 true (notes/assumptions/6.md). -/
def decodeTableWord (nbits w : Nat) : Option Instr :=
  match decode true true (tableBytes nbits w) with
  | .ok r => some r.1
  | .error _ => none

end Sys2Proof
end

