-- ==== Sys2Proof/Machine/Fetch.lean ====
section
/-! DEFINITION. Machine/Fetch.lean: fetching an instruction's bytes, and placing an instruction where the next fetch
reads it. -/

namespace Sys2Proof.Machine

/-- The bytes of the next instruction: the opcode, then as many operand bytes as its format has in the mode that the
opcode was fetched in (60_exceptions.md R502, 40_addressing.md R160, 30_encoding.md R135). Every operand byte is read
before any other access of the instruction (92 D22), so reading them all here gives the accesses in the spec's order. -/
def fetchInstr (t : State) : List Byte × State :=
  let op := fetch8 t
  let rest := fetchBytes ((formOf op.1).operandBytes t.m8 t.x8) op.2
  (op.1 :: rest.1, rest.2)

/-- The state in which the next read of address `a` gives `v`: the byte is stored in the RAM or ROM cell that the decoder
reaches, or it is the host's next answer if the address lies in the Tube window. -/
def placeByte (a : Addr) (v : Byte) (t : State) : State :=
  match readTarget t a with
  | .tube _ => t.setHost { t.host with answers := v :: t.host.answers }
  | .mem (.ram i) => t.setRam (t.ram.write i v)
  | .mem (.rom i) => t.setRom (t.rom.write i v)

/-- The bytes placed one after the other from offset `pc` of the program bank. The last is placed first, so that answers
of the Tube window come in the order of the fetch. -/
def placeBytes : List Byte → Word → State → State
  | [], _, t => t
  | v :: rest, pc, t => placeByte (addr t.pbr pc) v (placeBytes rest (pc + 1) t)

/-- The machine with an instruction where it fetches next, and not waiting for an interrupt, so that it does fetch.
Only the instruction's own bytes are placed: as many as its opcode has in the current mode (notes/assumptions/6.md). -/
def placeInstr (bytes : List Byte) (t : State) : State :=
  match bytes with
  | [] => t
  | op :: _ => (placeBytes (bytes.take (instrLen t.m8 t.x8 op)) t.pc t).setWai false

end Sys2Proof.Machine
end

