-- ==== Sys2Proof/Machine/RunLoop.lean ====
section
/-! DEFINITION. Machine/RunLoop.lean: one instruction without its boundary, and one iteration of the run loop
(spec/60_exceptions.md R502). -/

namespace Sys2Proof.Machine

/-- One instruction: its bytes are fetched, decoded in the mode of the fetch, and run (60_exceptions.md R502,
30_encoding.md R137). -/
def runInstr (t : State) : Host.Outcome State Fault Refusal :=
  let f := fetchInstr t
  match decode t.m8 t.x8 f.1 with
  | .error _ => .refused .undecodable
  | .ok r => exec r.1 f.2

/-- The body of the run loop: while waiting, an idle iteration; otherwise one instruction, then the boundary and the
yield test (60_exceptions.md R502, R514). -/
def iteration (t : State) : Host.Outcome State Fault Refusal :=
  if t.wai then .next (idle t)
  else
    match runInstr t with
    | .next u => .next (endIteration u)
    | .fault e => .fault e
    | .refused e => .refused e

end Sys2Proof.Machine
end

