-- ==== Sys2Proof/Machine/Step.lean ====
section
/-! DEFINITION. Machine/Step.lean: one step of the machine is the body of the run loop (spec/60_exceptions.md R502: "The
loop body is one step of the model: one instruction, or one idle iteration while waiting"). -/

namespace Sys2Proof.Machine

/-- One step. -/
def step (s : State) : Host.Outcome State Fault Refusal := iteration s

/-- The state with an instruction of spec/opcode_table.json, its bits numbered as the table numbers them, where the next
step fetches. -/
def State.withFetchWord (s : State) (nbits w : Nat) : State := placeInstr (tableBytes nbits w) s

end Sys2Proof.Machine
end

