-- ==== Sys2Proof/Machine/Api.lean ====
section
/-! DEFINITION. Machine/Api.lean: the calls of the host into the core, `init`, `reset` and `exec` (spec/00_scope.md R9,
spec/60_exceptions.md R502 to R504, R528, spec/70_reset_and_hazards.md R600 to R603). -/

namespace Sys2Proof.Machine

/-- The run loop: it runs while `cycles > 0`, for at most `fuel` iterations (60_exceptions.md R502, R503). A yield leaves
`cycles` at 0 or below, so the loop's own test is the `break` of R502. -/
def runLoop : Nat → State → Host.Outcome State Fault Refusal
  | 0, t => .next t
  | fuel + 1, t =>
    if 0 < t.cycles then
      match step t with
      | .next u => runLoop fuel u
      | .fault e => .fault e
      | .refused e => .refused e
    else .next t

/-- The state in which the loop of `exec(budget)` begins: the budget is added to the balance (60_exceptions.md R502). -/
def addBudget (budget : Nat) (t : State) : State := t.setCycles (t.cycles + budget)

/-- `exec(cycle_budget)`. Every iteration debits at least one cycle if WAI_IDLE_CYCLES is at least 1, so the balance
bounds the number of iterations (60_exceptions.md R502, R503). -/
def execCall (budget : Nat) (t : State) : Host.Outcome State Fault Refusal :=
  runLoop (addBudget budget t).cycles.toNat (addBudget budget t)

/-- A call of the host into the core (00_scope.md R9). A negative budget is one of the calls the spec assumes never
happen (60_exceptions.md R528). -/
inductive ApiCall where
  /-- `init(rom_image, native_vector_bank)` -/
  | init (rom : Memory) (nvb : Byte)
  /-- `reset()` -/
  | reset
  /-- `exec(cycle_budget)` -/
  | exec (budget : Nat)
  deriving DecidableEq, Repr

/-- What is given from outside the calls: the parameters, the power-on contents of RAM, and the host's side with the input
bits as they stand (00_scope.md R8, 70_reset_and_hazards.md R600, R602). -/
structure Setting where
  /-- the parameters of the instance -/
  params : Params
  /-- RAM_INIT: the draw of the power-on contents of RAM -/
  ramInit : Memory
  /-- the input bits at power-on -/
  lines : Lines
  /-- TUBE_READ and the plan of the input bits -/
  host : HostSide
  deriving DecidableEq, Repr

/-- The machine before `init`, in a setting. `init` then gives every register and latch its reset value, and ROM and NVB
theirs (70_reset_and_hazards.md R600). -/
def powerOn (w : Setting) : State :=
  { State.reset with cfg := w.params, ram := w.ramInit, lines := w.lines, host := w.host }

/-- What a call does: `init` once, then any sequence of `exec` and `reset`; `exec` and `reset` before `init` are refused
(70_reset_and_hazards.md R603). `none` is a machine that has not been initialised. -/
def apiCall (w : Setting) (machine : Option State) (call : ApiCall) : Host.Outcome State Fault Refusal :=
  match call, machine with
  | .init rom nvb, none => .next (doInit rom nvb (powerOn w))
  | .init rom nvb, some t => .next (doInit rom nvb t)
  | .reset, some t => .next (doReset t)
  | .exec budget, some t => execCall budget t
  | .reset, none => .refused .beforeInit
  | .exec _, none => .refused .beforeInit

/-! ### The end of a run -/

/-- The next instruction is STP: the core is not waiting, and the opcode byte at PBR:PC is DBH (47_flags_mode_system.md
R398). -/
def atStop (t : State) : Bool := !t.wai && peek t (addr t.pbr t.pc) == 0xDB

/-- The end state of a run: the state at the first boundary whose instruction was STP, before any event is taken there,
if the run reaches it within `fuel` steps (70_reset_and_hazards.md R630). -/
def runEnd : Nat → State → Option State
  | 0, _ => none
  | fuel + 1, t =>
    if atStop t then
      match runInstr t with
      | .next u => some u
      | .fault _ => none
      | .refused _ => none
    else
      match step t with
      | .next u => runEnd fuel u
      | .fault _ => none
      | .refused _ => none

end Sys2Proof.Machine
end

