-- ==== Sys2Proof/Safety.lean ====
section
/-! DEFINITION. Safety.lean: the invariants of the machine, in the terms that claims use. The core cannot fault
(spec/60_exceptions.md R500), so a safe run is one whose every state keeps these. -/

namespace Sys2Proof.Machine

/-- The index-high invariant: X8 implies XH = YH = 0 (10_state.md R32, R40). -/
def State.indexHighOk (t : State) : Bool := !t.x8 || (hi t.x == 0 && hi t.y == 0)

/-- The stack-page invariant: while e = 1, SH = 01H (10_state.md R33). -/
def State.stackPageOk (t : State) : Bool := !t.e || hi t.s == 1

/-- Both memory arrays are in canonical form, and lie within RAM_SIZE and ROM_SIZE (10_state.md R53). -/
def State.memoryOk (t : State) : Bool :=
  t.ram.wf && t.ram.below ramSize && t.rom.wf && t.rom.below romSize

/-- No yield request is pending between two iterations of the run loop (60_exceptions.md R504). -/
def State.yieldOk (t : State) : Bool := !t.yieldReq

/-- The invariant that every step keeps. -/
def State.Inv (t : State) : Prop :=
  t.indexHighOk = true ∧ t.stackPageOk = true ∧ t.memoryOk = true ∧ t.yieldOk = true

end Sys2Proof.Machine
end

