-- ==== Sys2Proof/Certificates/Slice0/Obligations.lean ====
section
/-! DEFINITION. Certificates/Slice0/Obligations.lean: the statements for the provers, and the words they are written in.
A statement's docstring names the rule of spec/ it formalises, or the log entry or decision it rests on. Results are
written in natural-number arithmetic, apart from the model's bit-vector operations. -/

namespace Sys2Proof.Claims

open Sys2Proof Sys2Proof.Machine

/-! ### Numbers, widths and flags -/

/-- `2^w` for an operand of 8 bits or of 16. -/
def span (eight : Bool) : Nat := if eight then 256 else 65536

/-- The part of a register that an operand of the width has, as a number. -/
def part (eight : Bool) (v : Word) : Nat := v.toNat % span eight

/-- A flag in arithmetic counts as 1 or 0 (00_scope.md R11). -/
def num (b : Bool) : Nat := if b then 1 else 0

/-- The 16-bit word of a number, modulo 2^16. -/
def word (n : Nat) : Word := BitVec.ofNat 16 n

/-- A number of the width read as two's complement (43_alu.md R251). -/
def signed (eight : Bool) (n : Nat) : Int :=
  if n % span eight < span eight / 2 then (n % span eight : Nat) else (n % span eight : Nat) - (span eight : Nat)

/-- An integer lies outside the signed range of the width: signed overflow (43_alu.md R251, R253). -/
def outside (eight : Bool) (r : Int) : Bool :=
  decide (r < -((span eight / 2 : Nat) : Int)) || decide (((span eight / 2 : Nat) : Int) ≤ r)

/-- n and z from a result of the width (43_alu.md R250). -/
def nzOf (eight : Bool) (r : Nat) (f : Flags) : Flags :=
  { f with n := decide (span eight / 2 ≤ r % span eight), z := decide (r % span eight = 0) }

/-- The accumulator after a write of `r` at width wM: with M8, AH keeps its value (10_state.md R31). -/
def accOf (s : State) (r : Nat) : Word := if s.m8 then word (s.a.toNat / 256 * 256 + r % 256) else word r

/-- An index register after a write of `r` at width wX: with X8, the high byte is 0 (10_state.md R32). -/
def idxOf (s : State) (r : Nat) : Word := word (r % span s.x8)

/-! ### What an access leaves unchanged -/

/-- `s`, but for what a read may change: the cycle counter and the host's side. -/
def readBy (s t : State) : State := { s with cycles := t.cycles, host := t.host }

/-- `s`, but for what a write may change: the cycle counter, the host's side, the yield request, the latches and RAM. -/
def writeBy (s t : State) : State :=
  { s with cycles := t.cycles, host := t.host, yieldReq := t.yieldReq, banks := t.banks, ram := t.ram }

/-- `s`, but for what a push may change: what a write may change, and S. -/
def stackBy (s t : State) : State := { writeBy s t with s := t.s }

/-! ### The rows of an instruction -/

/-- The addressing modes of a data operand, by name (30_encoding.md R131). -/
inductive Mode where
  | m | d | dX | dY | ind | indL | dXInd | indY | indLY | sr | srIndY | a | aX | aY | al | alX
  deriving DecidableEq, Repr

/-- The mode of an operand. -/
def modeOf : Operand → Mode
  | .imm _ => .m
  | .mem (.dp _) => .d
  | .mem (.dpX _) => .dX
  | .mem (.dpY _) => .dY
  | .mem (.dpInd _) => .ind
  | .mem (.dpIndL _) => .indL
  | .mem (.dpXInd _) => .dXInd
  | .mem (.dpIndY _) => .indY
  | .mem (.dpIndLY _) => .indLY
  | .mem (.sr _) => .sr
  | .mem (.srIndY _) => .srIndY
  | .mem (.abs _) => .a
  | .mem (.absX _) => .aX
  | .mem (.absY _) => .aY
  | .mem (.absL _) => .al
  | .mem (.absLX _) => .alX

/-- The mode of an operand in memory. -/
def memMode (m : AddrMode) : Mode := modeOf (.mem m)

/-- The layout that the accumulator-group instructions share, from a base opcode (30_encoding.md R136). -/
def groupMemRows (base : Byte) : List (Byte × Mode) :=
  [(base + 0x01, .dXInd), (base + 0x03, .sr), (base + 0x05, .d), (base + 0x07, .indL), (base + 0x0D, .a),
   (base + 0x0F, .al), (base + 0x11, .indY), (base + 0x12, .ind), (base + 0x13, .srIndY), (base + 0x15, .dX),
   (base + 0x17, .indLY), (base + 0x19, .aY), (base + 0x1D, .aX), (base + 0x1F, .alX)]

/-- That layout with the immediate form. -/
def groupRows (base : Byte) : List (Byte × Mode) := (base + 0x09, .m) :: groupMemRows base

/-- A form's rows are exactly the listed opcodes, each with its tag: the Encoding line of an instruction rule. -/
def rowsAre {α τ : Type} (form : Instr → Option α) (tag : α → τ) (rows : List (Byte × τ)) : Prop :=
  (∀ i o, form i = some o → (i.opcode, tag o) ∈ rows) ∧ ∀ i, i.opcode ∈ rows.map Prod.fst → (form i).isSome = true

/-- Instructions without an operand have the listed opcodes: the Encoding lines of their rules. -/
def codesAre (codes : List (Instr × Byte)) : Prop := ∀ p ∈ codes, p.1.opcode = p.2

/-- The rows of LDA, with their source operand (41_load_store.md R200). -/
def ldaForm : Instr → Option Operand
  | .ldaDpXInd d => some (.mem (.dpXInd d))
  | .ldaSr d => some (.mem (.sr d))
  | .ldaDp d => some (.mem (.dp d))
  | .ldaDpIndL d => some (.mem (.dpIndL d))
  | .ldaImm v => some (.imm v)
  | .ldaAbs w => some (.mem (.abs w))
  | .ldaAbsL l => some (.mem (.absL l))
  | .ldaDpIndY d => some (.mem (.dpIndY d))
  | .ldaDpInd d => some (.mem (.dpInd d))
  | .ldaSrIndY d => some (.mem (.srIndY d))
  | .ldaDpX d => some (.mem (.dpX d))
  | .ldaDpIndLY d => some (.mem (.dpIndLY d))
  | .ldaAbsY w => some (.mem (.absY w))
  | .ldaAbsX w => some (.mem (.absX w))
  | .ldaAbsLX l => some (.mem (.absLX l))
  | _ => none

/-- The rows of LDX, with their source operand (41_load_store.md R201). -/
def ldxForm : Instr → Option Operand
  | .ldxImm v => some (.imm v)
  | .ldxDp d => some (.mem (.dp d))
  | .ldxAbs w => some (.mem (.abs w))
  | .ldxDpY d => some (.mem (.dpY d))
  | .ldxAbsY w => some (.mem (.absY w))
  | _ => none

/-- The rows of LDY, with their source operand (41_load_store.md R202). -/
def ldyForm : Instr → Option Operand
  | .ldyImm v => some (.imm v)
  | .ldyDp d => some (.mem (.dp d))
  | .ldyAbs w => some (.mem (.abs w))
  | .ldyDpX d => some (.mem (.dpX d))
  | .ldyAbsX w => some (.mem (.absX w))
  | _ => none

/-- The rows of ADC, with their source operand (43_alu.md R257). -/
def adcForm : Instr → Option Operand
  | .adcDpXInd d => some (.mem (.dpXInd d))
  | .adcSr d => some (.mem (.sr d))
  | .adcDp d => some (.mem (.dp d))
  | .adcDpIndL d => some (.mem (.dpIndL d))
  | .adcImm v => some (.imm v)
  | .adcAbs w => some (.mem (.abs w))
  | .adcAbsL l => some (.mem (.absL l))
  | .adcDpIndY d => some (.mem (.dpIndY d))
  | .adcDpInd d => some (.mem (.dpInd d))
  | .adcSrIndY d => some (.mem (.srIndY d))
  | .adcDpX d => some (.mem (.dpX d))
  | .adcDpIndLY d => some (.mem (.dpIndLY d))
  | .adcAbsY w => some (.mem (.absY w))
  | .adcAbsX w => some (.mem (.absX w))
  | .adcAbsLX l => some (.mem (.absLX l))
  | _ => none

/-- The rows of SBC, with their source operand (43_alu.md R258). -/
def sbcForm : Instr → Option Operand
  | .sbcDpXInd d => some (.mem (.dpXInd d))
  | .sbcSr d => some (.mem (.sr d))
  | .sbcDp d => some (.mem (.dp d))
  | .sbcDpIndL d => some (.mem (.dpIndL d))
  | .sbcImm v => some (.imm v)
  | .sbcAbs w => some (.mem (.abs w))
  | .sbcAbsL l => some (.mem (.absL l))
  | .sbcDpIndY d => some (.mem (.dpIndY d))
  | .sbcDpInd d => some (.mem (.dpInd d))
  | .sbcSrIndY d => some (.mem (.srIndY d))
  | .sbcDpX d => some (.mem (.dpX d))
  | .sbcDpIndLY d => some (.mem (.dpIndLY d))
  | .sbcAbsY w => some (.mem (.absY w))
  | .sbcAbsX w => some (.mem (.absX w))
  | .sbcAbsLX l => some (.mem (.absLX l))
  | _ => none

/-- The rows of CMP, with their source operand (43_alu.md R259). -/
def cmpForm : Instr → Option Operand
  | .cmpDpXInd d => some (.mem (.dpXInd d))
  | .cmpSr d => some (.mem (.sr d))
  | .cmpDp d => some (.mem (.dp d))
  | .cmpDpIndL d => some (.mem (.dpIndL d))
  | .cmpImm v => some (.imm v)
  | .cmpAbs w => some (.mem (.abs w))
  | .cmpAbsL l => some (.mem (.absL l))
  | .cmpDpIndY d => some (.mem (.dpIndY d))
  | .cmpDpInd d => some (.mem (.dpInd d))
  | .cmpSrIndY d => some (.mem (.srIndY d))
  | .cmpDpX d => some (.mem (.dpX d))
  | .cmpDpIndLY d => some (.mem (.dpIndLY d))
  | .cmpAbsY w => some (.mem (.absY w))
  | .cmpAbsX w => some (.mem (.absX w))
  | .cmpAbsLX l => some (.mem (.absLX l))
  | _ => none

/-- The rows of CPX, with their source operand (43_alu.md R260). -/
def cpxForm : Instr → Option Operand
  | .cpxImm v => some (.imm v)
  | .cpxDp d => some (.mem (.dp d))
  | .cpxAbs w => some (.mem (.abs w))
  | _ => none

/-- The rows of CPY, with their source operand (43_alu.md R261). -/
def cpyForm : Instr → Option Operand
  | .cpyImm v => some (.imm v)
  | .cpyDp d => some (.mem (.dp d))
  | .cpyAbs w => some (.mem (.abs w))
  | _ => none

/-- The rows of AND, with their source operand (43_alu.md R262). -/
def andForm : Instr → Option Operand
  | .andDpXInd d => some (.mem (.dpXInd d))
  | .andSr d => some (.mem (.sr d))
  | .andDp d => some (.mem (.dp d))
  | .andDpIndL d => some (.mem (.dpIndL d))
  | .andImm v => some (.imm v)
  | .andAbs w => some (.mem (.abs w))
  | .andAbsL l => some (.mem (.absL l))
  | .andDpIndY d => some (.mem (.dpIndY d))
  | .andDpInd d => some (.mem (.dpInd d))
  | .andSrIndY d => some (.mem (.srIndY d))
  | .andDpX d => some (.mem (.dpX d))
  | .andDpIndLY d => some (.mem (.dpIndLY d))
  | .andAbsY w => some (.mem (.absY w))
  | .andAbsX w => some (.mem (.absX w))
  | .andAbsLX l => some (.mem (.absLX l))
  | _ => none

/-- The rows of ORA, with their source operand (43_alu.md R263). -/
def oraForm : Instr → Option Operand
  | .oraDpXInd d => some (.mem (.dpXInd d))
  | .oraSr d => some (.mem (.sr d))
  | .oraDp d => some (.mem (.dp d))
  | .oraDpIndL d => some (.mem (.dpIndL d))
  | .oraImm v => some (.imm v)
  | .oraAbs w => some (.mem (.abs w))
  | .oraAbsL l => some (.mem (.absL l))
  | .oraDpIndY d => some (.mem (.dpIndY d))
  | .oraDpInd d => some (.mem (.dpInd d))
  | .oraSrIndY d => some (.mem (.srIndY d))
  | .oraDpX d => some (.mem (.dpX d))
  | .oraDpIndLY d => some (.mem (.dpIndLY d))
  | .oraAbsY w => some (.mem (.absY w))
  | .oraAbsX w => some (.mem (.absX w))
  | .oraAbsLX l => some (.mem (.absLX l))
  | _ => none

/-- The rows of EOR, with their source operand (43_alu.md R264). -/
def eorForm : Instr → Option Operand
  | .eorDpXInd d => some (.mem (.dpXInd d))
  | .eorSr d => some (.mem (.sr d))
  | .eorDp d => some (.mem (.dp d))
  | .eorDpIndL d => some (.mem (.dpIndL d))
  | .eorImm v => some (.imm v)
  | .eorAbs w => some (.mem (.abs w))
  | .eorAbsL l => some (.mem (.absL l))
  | .eorDpIndY d => some (.mem (.dpIndY d))
  | .eorDpInd d => some (.mem (.dpInd d))
  | .eorSrIndY d => some (.mem (.srIndY d))
  | .eorDpX d => some (.mem (.dpX d))
  | .eorDpIndLY d => some (.mem (.dpIndLY d))
  | .eorAbsY w => some (.mem (.absY w))
  | .eorAbsX w => some (.mem (.absX w))
  | .eorAbsLX l => some (.mem (.absLX l))
  | _ => none

/-- The rows of BIT in a memory form (43_alu.md R265). -/
def bitForm : Instr → Option AddrMode
  | .bitDp d => some (.dp d)
  | .bitAbs w => some (.abs w)
  | .bitDpX d => some (.dpX d)
  | .bitAbsX w => some (.absX w)
  | _ => none

/-- The rows of STA, with their destination (41_load_store.md R203). -/
def staForm : Instr → Option AddrMode
  | .staDpXInd d => some (.dpXInd d)
  | .staSr d => some (.sr d)
  | .staDp d => some (.dp d)
  | .staDpIndL d => some (.dpIndL d)
  | .staAbs w => some (.abs w)
  | .staAbsL l => some (.absL l)
  | .staDpIndY d => some (.dpIndY d)
  | .staDpInd d => some (.dpInd d)
  | .staSrIndY d => some (.srIndY d)
  | .staDpX d => some (.dpX d)
  | .staDpIndLY d => some (.dpIndLY d)
  | .staAbsY w => some (.absY w)
  | .staAbsX w => some (.absX w)
  | .staAbsLX l => some (.absLX l)
  | _ => none

/-- The rows of STX, with their destination (41_load_store.md R204). -/
def stxForm : Instr → Option AddrMode
  | .stxDp d => some (.dp d)
  | .stxAbs w => some (.abs w)
  | .stxDpY d => some (.dpY d)
  | _ => none

/-- The rows of STY, with their destination (41_load_store.md R205). -/
def styForm : Instr → Option AddrMode
  | .styDp d => some (.dp d)
  | .styAbs w => some (.abs w)
  | .styDpX d => some (.dpX d)
  | _ => none

/-- The rows of STZ, with their destination (41_load_store.md R206). -/
def stzForm : Instr → Option AddrMode
  | .stzDp d => some (.dp d)
  | .stzDpX d => some (.dpX d)
  | .stzAbs w => some (.abs w)
  | .stzAbsX w => some (.absX w)
  | _ => none

/-- The shifts, rotates, increments and decrements. -/
inductive Shift where
  | asl
  | lsr
  | rol
  | ror
  | inc
  | dec
  deriving DecidableEq, Repr

/-- The rows of ASL, LSR, ROL, ROR, INC and DEC in memory (44_rmw.md R291 to R296). -/
def shiftMemForm : Instr → Option (Shift × AddrMode)
  | .aslDp d => some (.asl, (.dp d))
  | .aslAbs w => some (.asl, (.abs w))
  | .aslDpX d => some (.asl, (.dpX d))
  | .aslAbsX w => some (.asl, (.absX w))
  | .lsrDp d => some (.lsr, (.dp d))
  | .lsrAbs w => some (.lsr, (.abs w))
  | .lsrDpX d => some (.lsr, (.dpX d))
  | .lsrAbsX w => some (.lsr, (.absX w))
  | .rolDp d => some (.rol, (.dp d))
  | .rolAbs w => some (.rol, (.abs w))
  | .rolDpX d => some (.rol, (.dpX d))
  | .rolAbsX w => some (.rol, (.absX w))
  | .rorDp d => some (.ror, (.dp d))
  | .rorAbs w => some (.ror, (.abs w))
  | .rorDpX d => some (.ror, (.dpX d))
  | .rorAbsX w => some (.ror, (.absX w))
  | .incDp d => some (.inc, (.dp d))
  | .incAbs w => some (.inc, (.abs w))
  | .incDpX d => some (.inc, (.dpX d))
  | .incAbsX w => some (.inc, (.absX w))
  | .decDp d => some (.dec, (.dp d))
  | .decAbs w => some (.dec, (.abs w))
  | .decDpX d => some (.dec, (.dpX d))
  | .decAbsX w => some (.dec, (.absX w))
  | _ => none

/-- The rows of ASL, LSR, ROL, ROR, INC and DEC on the accumulator (44_rmw.md R291 to R296). -/
def shiftAccForm : Instr → Option Shift
  | .aslAcc => some .asl
  | .lsrAcc => some .lsr
  | .rolAcc => some .rol
  | .rorAcc => some .ror
  | .incAcc => some .inc
  | .decAcc => some .dec
  | _ => none

/-- The rows of TSB (44_rmw.md R301). -/
def tsbForm : Instr → Option AddrMode
  | .tsbDp d => some (.dp d)
  | .tsbAbs w => some (.abs w)
  | _ => none

/-- The rows of TRB (44_rmw.md R302). -/
def trbForm : Instr → Option AddrMode
  | .trbDp d => some (.dp d)
  | .trbAbs w => some (.abs w)
  | _ => none

/-- The conditions of the branches. -/
inductive Cond where
  | plus | minus | overflowClear | overflowSet | carryClear | carrySet | notEqual | equal | always
  deriving DecidableEq, Repr

/-- The branches with an 8-bit displacement: condition and displacement (45_control.md R321 to R329). -/
def branchForm : Instr → Option (Cond × Byte)
  | .bpl r => some (.plus, r)
  | .bmi r => some (.minus, r)
  | .bvc r => some (.overflowClear, r)
  | .bvs r => some (.overflowSet, r)
  | .bcc r => some (.carryClear, r)
  | .bcs r => some (.carrySet, r)
  | .bne r => some (.notEqual, r)
  | .beq r => some (.equal, r)
  | .bra r => some (.always, r)
  | _ => none

/-- The condition on the flags. -/
def Cond.holds : Cond → Flags → Bool
  | .plus, f => !f.n
  | .minus, f => f.n
  | .overflowClear, f => !f.v
  | .overflowSet, f => f.v
  | .carryClear, f => !f.c
  | .carrySet, f => f.c
  | .notEqual, f => !f.z
  | .equal, f => f.z
  | .always, _ => true

/-! ### Operands -/

/-- The operand of an instruction and the state after it is read, at a width (40_addressing.md R163). -/
def operandAt (eight : Bool) (o : Operand) (s : State) : Word × State := loadOp o (widthOf eight) s

/-- A byte access to address `a` writes RAM cell `n`. -/
def hits (s : State) (a : Addr) (n : Nat) : Prop := writeTarget s a = .mem (.ram n)

/-! ### Shifts as arithmetic -/

/-- The result of a shift, rotate, increment or decrement (44_rmw.md R291 to R296). -/
def shiftResult (op : Shift) (eight : Bool) (v : Nat) (c : Bool) : Nat :=
  match op with
  | .asl => 2 * v % span eight
  | .lsr => v / 2
  | .rol => (2 * v + num c) % span eight
  | .ror => v / 2 + num c * (span eight / 2)
  | .inc => (v + 1) % span eight
  | .dec => (v + span eight - 1) % span eight

/-- Its carry; INC and DEC leave c unchanged (44_rmw.md R291 to R296). -/
def shiftCarry (op : Shift) (eight : Bool) (v : Nat) (c : Bool) : Bool :=
  match op with
  | .asl => decide (span eight / 2 ≤ v)
  | .lsr => decide (v % 2 = 1)
  | .rol => decide (span eight / 2 ≤ v)
  | .ror => decide (v % 2 = 1)
  | .inc => c
  | .dec => c

/-- The flags after it. -/
def shiftFlags (op : Shift) (eight : Bool) (v : Nat) (f : Flags) : Flags :=
  { nzOf eight (shiftResult op eight v f.c) f with c := shiftCarry op eight v f.c }

/-! ### The write of a data operand -/

/-- The rows that write their data operand in memory, with its width and the value that is written. -/
def writesOperand (s : State) (i : Instr) : Option (AddrMode × Bool × Word) :=
  let old (m : AddrMode) : Nat := (operandAt s.m8 (.mem m) s).1.toNat
  let acc := part s.m8 s.a
  match staForm i, stxForm i, styForm i, stzForm i, shiftMemForm i, tsbForm i, trbForm i with
  | some m, _, _, _, _, _, _ => some (m, s.m8, s.a)
  | _, some m, _, _, _, _, _ => some (m, s.x8, s.x)
  | _, _, some m, _, _, _, _ => some (m, s.x8, s.y)
  | _, _, _, some m, _, _, _ => some (m, s.m8, 0)
  | _, _, _, _, some p, _, _ => some (p.2, s.m8, word (shiftResult p.1 s.m8 (old p.2) s.p.c))
  | _, _, _, _, _, some m, _ => some (m, s.m8, word (old m ||| acc))
  | _, _, _, _, _, _, some m => some (m, s.m8, word (old m - (old m &&& acc)))
  | _, _, _, _, _, _, _ => none

/-- The write of a data operand reaches target `target`: with its first byte, or, at 16 bits, with its second byte, which
is decoded under the latches that the first byte's write left (70_reset_and_hazards.md R611). -/
def operandReaches (s : State) (m : AddrMode) (eight : Bool) (v : Word) (target : WriteTarget) : Prop :=
  let r := resolve m s
  let low : Byte := BitVec.ofNat 8 (v.toNat % 256)
  writeTarget r.2 r.1.ea = target ∨
    eight = false ∧ writeTarget (write8 r.1.ea low r.2) (nextAddr r.1.cls r.1.ea 1) = target

/-! ### Decimal arithmetic as digits -/

/-- Every nibble of the low `k` nibbles is a decimal digit. -/
def decimalDigits : Nat → Nat → Prop
  | 0, _ => True
  | k + 1, n => n % 16 ≤ 9 ∧ decimalDigits k (n / 16)

/-- The number that `k` decimal digits stand for. -/
def decimalValue : Nat → Nat → Nat
  | 0, _ => 0
  | k + 1, n => n % 16 + 10 * decimalValue k (n / 16)

/-- The number of digits of a width. -/
def digits (eight : Bool) : Nat := if eight then 2 else 4

/-- The nibble loop of 43_alu.md R254 and R255, over unbounded integers: `fix` is the correction of group `k`. The answer
is `r` before the top group's correction, and after it. -/
def decimalLoop (fix : Nat → Int → Int) (n a b : Nat) (cin : Bool) : Int × Int :=
  let sum (k : Nat) (r : Int) (c : Bool) : Int :=
    ((a &&& (0xF <<< (4 * k))) + (b &&& (0xF <<< (4 * k))) + (num c <<< (4 * k)) : Nat) + r % 2 ^ (4 * k)
  let below := (List.range (n - 1)).foldl
    (fun (rc : Int × Bool) k =>
      let r := fix k (sum k rc.1 rc.2)
      (r, decide (0x10 * 2 ^ (4 * k) ≤ r)))
    (0, cin)
  let r := sum (n - 1) below.1 below.2
  (r, fix (n - 1) r)

/-- The correction of R254: 6 is added to a group over 9. -/
def addFix (k : Nat) (r : Int) : Int := if 0xA * 2 ^ (4 * k) ≤ r then r + 6 * 2 ^ (4 * k) else r

/-- The correction of R255: 6 is subtracted from a group that borrowed. -/
def subFix (k : Nat) (r : Int) : Int := if r < 0x10 * 2 ^ (4 * k) then r - 6 * 2 ^ (4 * k) else r

/-- The result, and the flags, of the loop: v is taken before the top group's correction, n and z after it. -/
def decimalOutcome (eight : Bool) (a b : Nat) (r : Int × Int) (f : Flags) : Nat × Flags :=
  let top (x : Int) : Bool := decide (x / (span eight / 2 : Nat) % 2 = 1)
  let res := (r.2 % (span eight : Nat)).toNat
  (res, { nzOf eight res f with
    c := decide ((span eight : Nat) ≤ r.2)
    v := top a == top b && top a != top r.1 })

/-! ### The decoder in arithmetic -/

/-- The masked address of a 24-bit address, as a number (20_memory.md R81). -/
def masked (s : State) (a : Addr) : Nat := if s.banks.defMode then a.toNat % 0x10000 else a.toNat % 0x80000

/-- A masked address lies in a window. -/
def within (w : Window) (n : Nat) : Bool := decide (w.first.toNat ≤ n) && decide (n ≤ w.last.toNat)

/-- A masked address lies in the eight registers at `base`. -/
def atPorts (base : Addr) (n : Nat) : Prop := n / 8 * 8 = base.toNat

/-- The RAM cell of a paged access: that of the parameter PAGE_MAP, by default byte `n` of page `sel`. -/
def pagedCell (s : State) (w : Paging) (sel n : Nat) : Nat :=
  (lookup s.cfg.pageMap (BitVec.ofNat 19 (sel * 0x4000 + n % 0x4000)) (w, BitVec.ofNat 3 sel, BitVec.ofNat 24 n)).toNat

/-- The place of memory that a masked address reaches: the last four steps of R82 and R83, which are the same. -/
def placeOf (s : State) (n : Nat) : Place :=
  if !s.banks.defMode && s.banks.banking.getLsbD s.cfg.lowBit && within s.cfg.lowWin n then
    .ram (pagedCell s .low (s.banks.banknum.toNat % 8) n)
  else if !s.banks.defMode && s.banks.banking.getLsbD s.cfg.highBit && within s.cfg.highWin n then
    .ram (pagedCell s .high (s.banks.banknum.toNat / 8) n)
  else if within s.cfg.romWin n && (s.banks.defMode || s.banks.banking.getLsbD s.cfg.romBit) then
    .rom (n % 0x8000)
  else .ram n

/-- The map of 20_memory.md R101, for the default parameters. -/
def mapOf (s : State) (n : Nat) : Place :=
  let bit (k : Nat) : Bool := s.banks.banking.getLsbD k
  if s.banks.defMode then
    if n < 0x8000 then .ram n else .rom (n - 0x8000)
  else if 0x4000 ≤ n ∧ n < 0x8000 then
    if bit 0 then .ram (s.banks.banknum.toNat % 8 * 0x4000 + (n - 0x4000)) else .ram n
  else if 0x8000 ≤ n ∧ n < 0xC000 then
    if bit 1 then .ram (s.banks.banknum.toNat / 8 * 0x4000 + (n - 0x8000))
    else if bit 2 then .rom (n - 0x8000) else .ram n
  else if 0xC000 ≤ n ∧ n < 0x10000 then
    if bit 2 then .rom (n - 0x8000) else .ram n
  else .ram n

/-! ### The stack -/

/-- The stack pointer after `k` pushes: in emulation mode it wraps within page 1 (46_stack.md R350). -/
def spAfter (s : State) (k : Nat) : Word :=
  if s.e ∧ 0 < k then word (0x100 + (s.s.toNat + 256 * k - k) % 256) else word (s.s.toNat + 65536 * k - k)

/-- The stack pointer after `k` pulls (46_stack.md R351). -/
def spUp (s : State) (k : Nat) : Word :=
  if s.e ∧ 0 < k then word (0x100 + (s.s.toNat + k) % 256) else word (s.s.toNat + k)

/-- The bytes pushed one after the other, the first one first. -/
def pushAll (bytes : List Byte) (s : State) : State := bytes.foldl (fun t v => push8 v t) s

/-- The bytes of a word in the order of `Push16`: the high byte first (46_stack.md R352). -/
def highFirst (w : Word) : List Byte := [BitVec.ofNat 8 (w.toNat / 256), BitVec.ofNat 8 (w.toNat % 256)]

/-- The bytes of a register at a width, in the order of the push. -/
def atWidth (eight : Bool) (w : Word) : List Byte := if eight then [BitVec.ofNat 8 (w.toNat % 256)] else highFirst w

/-- One of the pushes of `bytes` from state `s` stores to RAM cell `n`. -/
def pushHits (s : State) (bytes : List Byte) (n : Nat) : Prop :=
  ∃ k < bytes.length, hits (pushAll (bytes.take k) s) (bank0 (spAfter s k)) n

/-- The next `k` pushes from `s` go to RAM, each to a cell of its own. -/
def ramStack (s : State) (k : Nat) : Prop :=
  ∃ cell : Nat → Nat, (∀ j < k, hits s (bank0 (spAfter s j)) (cell j)) ∧ ∀ i < k, ∀ j < k, cell i = cell j → i = j

/-- The bytes that a push instruction of registers, the status byte or an operand pushes. -/
def pushForm (s : State) : Instr → Option (List Byte)
  | .pha => some (atWidth s.m8 s.a)
  | .phx => some (atWidth s.x8 s.x)
  | .phy => some (atWidth s.x8 s.y)
  | .php => some [if s.e then packE true s.p else packN s.p]
  | .phb => some [s.dbr]
  | .phd => some (highFirst s.dp)
  | .phk => some [s.pbr]
  | .pea w => some (highFirst w)
  | .per r => some (highFirst (word (s.pc.toNat + r.toNat)))
  | _ => none

/-! ### Interrupts -/

/-- The native vector (60_exceptions.md R509). -/
def nativeVector : Event → Nat
  | .cop => 0xFFE4
  | .brk => 0xFFE6
  | .nmi => 0xFFEA
  | .irq => 0xFFEE

/-- The emulation vector (60_exceptions.md R509). -/
def emulationVector : Event → Nat
  | .cop => 0xFFF4
  | .nmi => 0xFFFA
  | .brk => 0xFFFE
  | .irq => 0xFFFE

/-- The frame of an event: PBR, PC and P in native mode, PC and P in emulation mode (60_exceptions.md R510). -/
def frameOf (k : Event) (s : State) : List Byte :=
  if s.e then highFirst s.pc ++ [packE (k == .brk || k == .cop) s.p]
  else s.pbr :: highFirst s.pc ++ [packN s.p]

/-- The state after `Interrupt(k)` (60_exceptions.md R510). -/
def entered (k : Event) (s : State) : State :=
  let pushed := pushAll (frameOf k s) s
  let bank : Byte := if s.e then 0 else s.nvb
  let va := if s.e then emulationVector k else nativeVector k
  let ready := { pushed with p := { s.p with i := true, d := false }, pbr := 0, wai := false }
  let low := read8 (addr bank (word va)) ready
  let high := read8 (addr bank (word (va + 1))) low.2
  { high.2 with pc := word (low.1.toNat + 256 * high.1.toNat) }

end Sys2Proof.Claims

open Sys2Proof Sys2Proof.Machine Sys2Proof.Claims

/-! ## Encoding -/

/-- Every well-formed instruction of every mode, at every operand, is what its bytes decode to, whatever follows them
(30_encoding.md R130, R131, R133, R134). -/
def Obligations.DecodeOfEncode : Prop :=
  ∀ (m8 x8 : Bool) (i : Instr) (rest : List Byte),
    i.wf m8 x8 = true → decode m8 x8 (encode i ++ rest) = .ok (i, rest)

/-- What decodes is well-formed in the mode it was decoded in, and is encoded as the bytes it was decoded from
(30_encoding.md R132, R133). -/
def Obligations.EncodeOfDecode : Prop :=
  ∀ (m8 x8 : Bool) (bytes rest : List Byte) (i : Instr),
    decode m8 x8 bytes = .ok (i, rest) → i.wf m8 x8 = true ∧ bytes = encode i ++ rest

/-- There is no illegal encoding: in every mode every opcode byte, with its operand bytes there, is an instruction, and
two opcodes are never one instruction (30_encoding.md R136, R138). -/
def Obligations.EveryOpcodeDecodes : Prop :=
  ∀ (m8 x8 : Bool) (op : Byte) (bytes : List Byte), instrLen m8 x8 op ≤ bytes.length + 1 →
    ∃ i rest, decode m8 x8 (op :: bytes) = .ok (i, rest) ∧ i.opcode = op

/-- The length of an instruction: an IMM_M opcode has 2 bytes if M8 and 3 if not, an IMM_X opcode 2 if X8 and 3 if not,
and every other length is fixed (30_encoding.md R132, R135). -/
def Obligations.InstructionLengthFollowsWidth : Prop :=
  (∀ m8 x8 i, i.wf m8 x8 = true → (encode i).length = instrLen m8 x8 i.opcode) ∧
  ∀ (m8 x8 : Bool) (op : Byte),
    (op ∈ [0x09#8, 0x29, 0x49, 0x69, 0x89, 0xA9, 0xC9, 0xE9] → instrLen m8 x8 op = if m8 then 2 else 3) ∧
    (op ∈ [0xA0#8, 0xA2, 0xC0, 0xE0] → instrLen m8 x8 op = if x8 then 2 else 3) ∧
    (op ∉ [0x09#8, 0x29, 0x49, 0x69, 0x89, 0xA9, 0xC9, 0xE9, 0xA0, 0xA2, 0xC0, 0xE0] →
      instrLen m8 x8 op = instrLen true true op) ∧
    1 ≤ instrLen m8 x8 op ∧ instrLen m8 x8 op ≤ 4

/-- A few words written out from the opcode map and the formats decode to the instructions they stand for
(30_encoding.md R131, R133, R134, R136). -/
def Obligations.OpcodeWordsDecode : Prop :=
  decode true true [0xA9, 0x42] = .ok (.ldaImm (.byte 0x42), []) ∧
  decode false true [0xA9, 0x34, 0x12] = .ok (.ldaImm (.word 0x1234), []) ∧
  decode true false [0xA2, 0x34, 0x12] = .ok (.ldxImm (.word 0x1234), []) ∧
  decode true true [0x85, 0x10] = .ok (.staDp 0x10, []) ∧
  decode true true [0x8E, 0x00, 0x20] = .ok (.stxAbs 0x2000, []) ∧
  decode true true [0x71, 0xFF] = .ok (.adcDpIndY 0xFF, []) ∧
  decode true true [0x1E, 0x34, 0x12] = .ok (.aslAbsX 0x1234, []) ∧
  decode true true [0x10, 0x04] = .ok (.bpl 0x04, []) ∧
  decode true true [0x82, 0xFD, 0xFF] = .ok (.brl 0xFFFD, []) ∧
  decode true true [0x5C, 0x56, 0x34, 0x12] = .ok (.jmlLong 0x123456, []) ∧
  decode true true [0x44, 0x01, 0x02] = .ok (.mvp 0x01 0x02, []) ∧
  decode true true [0x48] = .ok (.pha, []) ∧
  decode true true [0xC2, 0x30] = .ok (.rep 0x30, []) ∧
  decode true true [0x00, 0x00] = .ok (.brk 0x00, [])

/-! ## The step -/

/-- The bytes that a fetch of `n` bytes reads are at consecutive offsets of the program bank, modulo 2^16; PC moves past
them, PBR never changes, and each byte costs a cycle (10_state.md R35, 30_encoding.md R130, 40_addressing.md R160). Where
none of the addresses is a Tube register, the bytes are the machine's own and the host sees nothing. -/
def Obligations.FetchReadsConsecutiveBytes : Prop :=
  ∀ (n : Nat) (s : State),
    (fetchBytes n s).2 =
      { s with pc := word (s.pc.toNat + n), cycles := s.cycles - n, host := (fetchBytes n s).2.host } ∧
    ((∀ k < n, ∃ p, readTarget s (addr s.pbr (word (s.pc.toNat + k))) = .mem p) →
      (fetchBytes n s).2.host = s.host ∧
      (fetchBytes n s).1 = (List.range n).map fun k => peek s (addr s.pbr (word (s.pc.toNat + k))))

/-- If the bytes at PBR:PC are those of a well-formed instruction of the current mode, a step of a machine that does not
wait runs that instruction on the state past its bytes, and then the boundary and the yield test
(60_exceptions.md R502, R505). That all operand bytes are fetched before the instruction runs is the model's reading of
40_addressing.md R160 and decision D22 (notes/assumptions/5.md); that the yield is tested after the boundary is decision
D26. -/
def Obligations.StepRunsDecodedInstruction : Prop :=
  ∀ (s : State) (i : Instr), s.wai = false → i.wf s.m8 s.x8 = true →
    (fetchBytes (encode i).length s).1 = encode i →
    step s = match exec i (fetchBytes (encode i).length s).2 with
      | .next t => .next (yieldCheck (boundary t))
      | .fault e => .fault e
      | .refused e => .refused e

/-- While waiting, a step makes no fetch: it debits WAI_IDLE_CYCLES and runs the boundary. If the boundary takes no event,
which includes an IRQ with i = 1, nothing else changes: PC is held and the machine still waits
(60_exceptions.md R514; the masked IRQ is decision D36). -/
def Obligations.WaitingStepFetchesNothing : Prop :=
  ∀ s : State, s.wai = true →
    step s = .next (yieldCheck (boundary { s with cycles := s.cycles - s.cfg.waiIdleCycles })) ∧
    (s.host.inputs = [] → s.lines.reset = false → s.lines.nmi = false → (s.lines.irq = false ∨ s.p.i = true) →
      s.yieldReq = false → step s = .next { s with cycles := s.cycles - s.cfg.waiIdleCycles })

/-- No instruction, operand, address or memory access ever faults: from every state a step answers a next state
(60_exceptions.md R500, 20_memory.md R94). -/
def Obligations.StepAlwaysAnswersNext : Prop := ∀ s : State, ∃ t, step s = .next t

/-- Every step keeps the invariant: X8 implies XH = YH = 0, e implies SH = 01H, both memory arrays are in canonical form
and within their sizes, and no yield request is pending (10_state.md R32, R33, R40, R53, 60_exceptions.md R504). -/
def Obligations.StepKeepsInvariant : Prop := ∀ s t : State, s.Inv → step s = .next t → t.Inv

/-- The state after reset meets the invariant (70_reset_and_hazards.md R608). -/
def Obligations.ResetStateMeetsInvariant : Prop := State.reset.Inv

/-- No step writes ROM or the native vector bank (10_state.md R53, 20_memory.md R91), nor a parameter: the parameters are
arguments of the model (00_scope.md R8), and that they stand in the state is the model's choice
(notes/assumptions/1.md). -/
def Obligations.StepKeepsRomBankAndParameters : Prop :=
  ∀ s t : State, step s = .next t → t.rom = s.rom ∧ t.nvb = s.nvb ∧ t.cfg = s.cfg

/-- A boundary samples the input bits and takes at most one event: RESET, then NMI, then IRQ with i = 0. The reset clears
RESET_BIT, the NMI is acknowledged first, which clears NMI_BIT, and the core clears no other input bit
(60_exceptions.md R505 to R508, R523, R526; the priority is decision D31). The sample is the next entry of the host's
plan, and past the end of the plan the bits as they stand (notes/assumptions/4.md). -/
def Obligations.BoundaryTakesOneEventByPriority : Prop :=
  ∀ s : State,
    let sampled : State := match s.host.inputs with
      | [] => s
      | l :: rest => { s with lines := l, host := { s.host with inputs := rest } }
    let l := sampled.lines
    (l.reset = true → boundary s = doReset sampled ∧ (boundary s).lines = { l with reset := false }) ∧
    (l.reset = false → l.nmi = true →
      boundary s = entered .nmi
        { sampled with lines := { l with nmi := false }, host := { sampled.host with calls := .nmiAck :: s.host.calls } } ∧
      (boundary s).lines = { l with nmi := false }) ∧
    (l.reset = false → l.nmi = false → l.irq = true → s.p.i = false →
      boundary s = entered .irq sampled ∧ (boundary s).lines = l) ∧
    (l.reset = false → l.nmi = false → (l.irq = false ∨ s.p.i = true) → boundary s = sampled)

/-- A write to the Tube window asks for the yield, and it makes its instruction the last of the budget: no step leaves a
request pending, and a step whose instruction left one pending ends with a balance of at most 0 (20_memory.md R85,
60_exceptions.md R504, 70_reset_and_hazards.md R615; decision D26). -/
def Obligations.TubeWriteForfeitsTheBudget : Prop :=
  (∀ (s : State) (a : Addr) (v : Byte) (reg : BitVec 3), writeTarget s a = .tube reg →
    (write8 a v s).yieldReq = true) ∧
  (∀ s t : State, step s = .next t → t.yieldReq = false) ∧
  ∀ s t u : State, s.wai = false → runInstr s = .next u → u.yieldReq = true → step s = .next t → t.cycles ≤ 0

/-- Where WAI_IDLE_CYCLES is at least 1, `exec` comes back: it answers a state whose balance is at most 0, whatever the
budget and the program (60_exceptions.md R502, R503; decision D74). The model bounds the loop by the balance at its start,
which is its own choice (notes/assumptions/11.md): the statement says that the bound never cuts a run short. -/
def Obligations.ExecReturnsWithBudgetSpent : Prop :=
  ∀ (s : State) (budget : Nat), 1 ≤ s.cfg.waiIdleCycles → ∃ t, execCall budget s = .next t ∧ t.cycles ≤ 0

/-! ## Reset -/

/-- What `Reset()` leaves (10_state.md R55, 70_reset_and_hazards.md R601, R602): every register, flag and latch at the
value of the table, PC the word at ROM image offsets 7FFCH and 7FFDH, cycles 0, RESET_BIT clear, and RAM, ROM, NVB,
IRQ_BIT and NMI_BIT unchanged. The values are decisions D25, D34 and D69; the ROM offsets are those of the default
parameters. -/
def Obligations.ResetLeavesTheTable : Prop :=
  ∀ s : State, s.cfg = defaultParams →
    doReset s =
      { a := 0, x := 0, y := 0, s := 0x01FF, dp := 0,
        pc := word ((s.rom.read 0x7FFC).toNat + 256 * (s.rom.read 0x7FFD).toNat),
        pbr := 0, dbr := 0,
        p := { c := false, z := false, i := true, d := false, v := false, n := false, m := true, ex := true },
        e := true, wai := false, yieldReq := false, cycles := 0,
        lines := { s.lines with reset := false },
        banks := { defMode := true, divider := 0, banking := 0, banknum := 0 },
        ram := s.ram, rom := s.rom, nvb := s.nvb, cfg := s.cfg, host := s.host }

/-- `init` installs the ROM image and the bank of the native vectors and then resets, for every value of the parameters and
every power-on contents of RAM; RAM and the parameters are as they were. With the default parameters
(notes/assumptions/1.md) PC is the word at offsets 7FFCH and 7FFDH of the image (70_reset_and_hazards.md R600, R601; the
vector's address is decision D34). Before `init`, `exec` and `reset` are refused (70_reset_and_hazards.md R603,
60_exceptions.md R528). That any image is installed unchecked is the model's choice (notes/assumptions/12.md), and so is
that a second `init` acts as the first (notes/assumptions/21.md). -/
def Obligations.InitInstallsImageAndResets : Prop :=
  (∀ (w : Setting) (rom : Memory) (nvb : Byte),
    ∃ t, apiCall w none (.init rom nvb) = .next t ∧
      t = doReset { State.reset with
        rom := rom, nvb := nvb, ram := w.ramInit, cfg := w.params, lines := w.lines, host := w.host } ∧
      t.rom = rom ∧ t.nvb = nvb ∧ t.ram = w.ramInit ∧ t.cfg = w.params ∧
      (w.params = defaultParams → t.pc = word ((rom.read 0x7FFC).toNat + 256 * (rom.read 0x7FFD).toNat))) ∧
  (∀ (w : Setting) (s : State) (rom : Memory) (nvb : Byte),
    apiCall w (some s) (.init rom nvb) = .next (doReset { s with rom := rom, nvb := nvb })) ∧
  (∀ (w : Setting) (s : State), apiCall w (some s) .reset = .next (doReset s)) ∧
  (∀ w : Setting, apiCall w none .reset = .refused .beforeInit) ∧
  ∀ (w : Setting) (budget : Nat), apiCall w none (.exec budget) = .refused .beforeInit

/-! ## The decoder -/

/-- A byte read reaches one target, by the first step that matches: the Tube window, the low paging window, the high
paging window, ROM, linear RAM. It costs a cycle; a Tube read is one call with the register's number; nothing else
changes (20_memory.md R82, R84, R87 to R90, R92, R93). The page map is a parameter, kept as a
table (notes/assumptions/1.md; its default is decision D16), and that a read of the
banking-control window falls through to memory is the model's treatment of a read the source calls not meaningful
(notes/assumptions/10.md). -/
def Obligations.ReadReachesOneTarget : Prop :=
  ∀ (s : State) (a : Addr),
    (atPorts s.cfg.tubeBase (masked s a) →
      let reg := BitVec.ofNat 3 (masked s a % 8)
      let b := match s.host.answers with
        | b :: _ => b
        | [] => Config.tubeFree s.host.reads reg
      read8 a s = (b, { s with
        cycles := s.cycles - 1
        host := { s.host with
          answers := s.host.answers.tail, reads := s.host.reads + 1, calls := .tubeRead reg b :: s.host.calls } })) ∧
    (¬ atPorts s.cfg.tubeBase (masked s a) →
      read8 a s = (match placeOf s (masked s a) with
        | .ram i => s.ram.read i
        | .rom i => s.rom.read i, { s with cycles := s.cycles - 1 }))

/-- A byte write reaches one target, by the first step that matches: the Tube window, the banking-control window, the low
paging window, the high paging window, ROM, linear RAM. It costs a cycle. A Tube write is one call and asks for the
yield, a banking-control write changes the latches alone, a write to ROM changes nothing else, and a RAM write stores the
byte (20_memory.md R83, R85, R86, R88, R89, R91 to R93). The page map and the shift-in protocol are parameters, kept as
tables (notes/assumptions/1.md; their defaults are decisions D16 and D12). -/
def Obligations.WriteReachesOneTarget : Prop :=
  ∀ (s : State) (a : Addr) (v : Byte),
    (atPorts s.cfg.tubeBase (masked s a) →
      write8 a v s = { s with
        cycles := s.cycles - 1
        yieldReq := true
        host := { s.host with calls := .tubeWrite (BitVec.ofNat 3 (masked s a % 8)) v :: s.host.calls } }) ∧
    (¬ atPorts s.cfg.tubeBase (masked s a) → atPorts s.cfg.bankctlBase (masked s a) →
      write8 a v s = { s with
        cycles := s.cycles - 1, banks := bankctlWrite s.cfg (BitVec.ofNat 3 (masked s a % 8)) v s.banks }) ∧
    (¬ atPorts s.cfg.tubeBase (masked s a) → ¬ atPorts s.cfg.bankctlBase (masked s a) →
      write8 a v s = match placeOf s (masked s a) with
        | .ram i => { s with cycles := s.cycles - 1, ram := s.ram.write i v }
        | .rom _ => { s with cycles := s.cycles - 1 })

/-- By the default protocol, a write to the banking-control window shifts bit 0 of the register's number into the latch that
bits 2 and 1 select, and leaves the other three latches; the data byte is ignored (20_memory.md R86, decision D12; the
widths are those of 10_state.md R47). Where the parameter BANKCTL_WRITE differs from the default, it gives the latches
(notes/assumptions/1.md), and it can be any function of the register, the byte and the latches before
(00_scope.md R8). -/
def Obligations.LatchWriteShiftsOneBit : Prop :=
  (∀ (c : Params) (k : BitVec 3) (v : Byte) (l : Latches), (∀ e ∈ c.bankctl, e.1 ≠ (k, v, l)) →
    let b := k.toNat % 2
    (k.toNat / 2 = 0 → bankctlWrite c k v l = { l with defMode := decide (b = 1) }) ∧
    (k.toNat / 2 = 1 → bankctlWrite c k v l = { l with divider := BitVec.ofNat 4 (2 * l.divider.toNat + b) }) ∧
    (k.toNat / 2 = 2 → bankctlWrite c k v l = { l with banking := BitVec.ofNat 4 (2 * l.banking.toNat + b) }) ∧
    (k.toNat / 2 = 3 → bankctlWrite c k v l = { l with banknum := BitVec.ofNat 6 (2 * l.banknum.toNat + b) })) ∧
  ∀ (c : Params) (f : BitVec 3 → Byte → Latches → Latches),
    ∃ table, ∀ k v l, bankctlWrite { c with bankctl := table } k v l = f k v l

/-- The address map for the default parameters (20_memory.md R101): the Tube registers at FEF8H to FEFFH, the
banking-control registers at FEF0H to FEF7H for writes only, and everywhere else RAM, paged RAM or ROM by the latches. -/
def Obligations.DefaultAddressMap : Prop :=
  ∀ (s : State) (a : Addr), s.cfg = defaultParams →
    readTarget s a =
      (if 0xFEF8 ≤ masked s a ∧ masked s a ≤ 0xFEFF then .tube (BitVec.ofNat 3 (masked s a - 0xFEF8))
       else .mem (mapOf s (masked s a))) ∧
    writeTarget s a =
      (if 0xFEF8 ≤ masked s a ∧ masked s a ≤ 0xFEFF then .tube (BitVec.ofNat 3 (masked s a - 0xFEF8))
       else if 0xFEF0 ≤ masked s a ∧ masked s a ≤ 0xFEF7 then .bankctl (BitVec.ofNat 3 (masked s a - 0xFEF0))
       else .mem (mapOf s (masked s a)))

/-- In default mode the bank of an address is discarded, and in extended mode bits 7:3 of the bank are, for reads and for
writes (20_memory.md R81). -/
def Obligations.MaskFoldsBanks : Prop :=
  ∀ (s : State) (bank : Byte) (off : Word) (v : Byte),
    (s.banks.defMode = true →
      read8 (addr bank off) s = read8 (addr 0 off) s ∧ write8 (addr bank off) v s = write8 (addr 0 off) v s) ∧
    (s.banks.defMode = false →
      read8 (addr bank off) s = read8 (addr (BitVec.ofNat 8 (bank.toNat % 8)) off) s ∧
      write8 (addr bank off) v s = write8 (addr (BitVec.ofNat 8 (bank.toNat % 8)) off) v s)

/-- A byte written to RAM is read back from the same address, every other cell and every address that reaches another
place reads as before, and a write to ROM changes nothing but the cycle counter (20_memory.md R91, R97, R103). -/
def Obligations.WrittenByteReadsBack : Prop :=
  ∀ (s : State) (a : Addr) (v : Byte), s.ram.wf = true →
    (∀ i, writeTarget s a = .mem (.ram i) →
      peek (write8 a v s) a = v ∧
      (∀ j, j ≠ i → (write8 a v s).ram.read j = s.ram.read j) ∧
      ∀ b, readTarget s b ≠ .mem (.ram i) → peek (write8 a v s) b = peek s b) ∧
    ∀ i, writeTarget s a = .mem (.rom i) → write8 a v s = { s with cycles := s.cycles - 1 }

/-- An operand of two bytes, or a pointer of three, is read and written low byte first; byte k is at the address plus k,
which for class D stays in bank 0 and wraps at 16 bits (20_memory.md R95, R96; decisions D21, D22, D59). -/
def Obligations.MultiByteAccessOrder : Prop :=
  ∀ (cls : Wrap) (a : Addr) (v : Word) (s : State),
    let next (k : Nat) : Addr :=
      match cls with
      | .L => BitVec.ofNat 24 (a.toNat + k)
      | .D => BitVec.ofNat 24 ((a.toNat % 65536 + k) % 65536)
    let b0 := read8 a s
    let b1 := read8 (next 1) b0.2
    let b2 := read8 (next 2) b1.2
    (memRead .w8 cls a s).1.toNat = b0.1.toNat ∧ (memRead .w8 cls a s).2 = b0.2 ∧
    (memRead .w16 cls a s).1.toNat = b0.1.toNat + 256 * b1.1.toNat ∧ (memRead .w16 cls a s).2 = b1.2 ∧
    (memRead24 cls a s).1.toNat = b0.1.toNat + 256 * b1.1.toNat + 65536 * b2.1.toNat ∧
    (memRead24 cls a s).2 = b2.2 ∧
    memWrite .w8 cls a v s = write8 a (BitVec.ofNat 8 (v.toNat % 256)) s ∧
    memWrite .w16 cls a v s =
      write8 (next 1) (BitVec.ofNat 8 (v.toNat / 256)) (write8 a (BitVec.ofNat 8 (v.toNat % 256)) s)

/-! ## Addressing modes -/

/-- The direct-page and stack-relative addresses are in bank 0 and wrap at 16 bits; in emulation mode the index is added
in 8 bits; a DP whose low byte is not 0 costs one cycle where DP is added (40_addressing.md R166 to R168,
70_reset_and_hazards.md R621; decisions D53, D58, D44). -/
def Obligations.DirectPageAddress : Prop :=
  ∀ (s : State) (d : Byte),
    let charged := { s with cycles := s.cycles - (if s.dp.toNat % 256 = 0 then 0 else 1) }
    let indexed (r : Word) : Nat :=
      if s.e then (s.dp.toNat + (d.toNat + r.toNat) % 256) % 65536 else (s.dp.toNat + d.toNat + r.toNat) % 65536
    resolve (.dp d) s = (⟨BitVec.ofNat 24 ((s.dp.toNat + d.toNat) % 65536), .D⟩, charged) ∧
    resolve (.dpX d) s = (⟨BitVec.ofNat 24 (indexed s.x), .D⟩, charged) ∧
    resolve (.dpY d) s = (⟨BitVec.ofNat 24 (indexed s.y), .D⟩, charged) ∧
    resolve (.sr d) s = (⟨BitVec.ofNat 24 ((s.s.toNat + d.toNat) % 65536), .D⟩, s)

/-- The absolute addresses take the data bank and the long ones carry their own; a 16-bit offset with an index wraps in
its bank and a long address with an index carries into it; a,X and a,Y cost one cycle if the stored ex is 0 or the sum
leaves the operand's page (40_addressing.md R170 to R173, 70_reset_and_hazards.md R622; decisions D50, D51). -/
def Obligations.AbsoluteAddress : Prop :=
  ∀ (s : State) (w : Word) (l : Addr),
    let at16 (n : Nat) : Addr := BitVec.ofNat 24 (s.dbr.toNat * 65536 + n % 65536)
    let charged (r : Word) : State :=
      if s.p.ex = false ∨ w.toNat / 256 ≠ (w.toNat + r.toNat) % 65536 / 256 then { s with cycles := s.cycles - 1 } else s
    resolve (.abs w) s = (⟨at16 w.toNat, .L⟩, s) ∧
    resolve (.absX w) s = (⟨at16 (w.toNat + s.x.toNat), .L⟩, charged s.x) ∧
    resolve (.absY w) s = (⟨at16 (w.toNat + s.y.toNat), .L⟩, charged s.y) ∧
    resolve (.absL l) s = (⟨l, .L⟩, s) ∧
    resolve (.absLX l) s = (⟨BitVec.ofNat 24 (l.toNat + s.x.toNat), .L⟩, s)

/-- The indirect addresses come from a pointer in bank 0: two bytes with the data bank, or three. The Y index carries
into the bank. In emulation mode, (d),Y with operand byte FFH takes the pointer's high byte from DP itself
(40_addressing.md R169, R174 to R178; decisions D52, D54, D55). -/
def Obligations.IndirectAddress : Prop :=
  ∀ (s : State) (d : Byte),
    let charged := { s with cycles := s.cycles - (if s.dp.toNat % 256 = 0 then 0 else 1) }
    let direct : Addr := BitVec.ofNat 24 ((s.dp.toNat + d.toNat) % 65536)
    let stack : Addr := BitVec.ofNat 24 ((s.s.toNat + d.toNat) % 65536)
    let indexed : Addr := BitVec.ofNat 24
      (if s.e then (s.dp.toNat + (d.toNat + s.x.toNat) % 256) % 65536 else (s.dp.toNat + d.toNat + s.x.toNat) % 65536)
    let inBank (p : Word) (i : Nat) : Ref := ⟨BitVec.ofNat 24 (s.dbr.toNat * 65536 + p.toNat + i), .L⟩
    let p := memRead .w16 .D direct charged
    let px := memRead .w16 .D indexed charged
    let ps := memRead .w16 .D stack s
    let pl := memRead24 .D direct charged
    let low := read8 (BitVec.ofNat 24 ((s.dp.toNat + 255) % 65536)) charged
    let high := read8 (BitVec.ofNat 24 s.dp.toNat) low.2
    resolve (.dpInd d) s = (inBank p.1 0, p.2) ∧
    resolve (.dpXInd d) s = (inBank px.1 0, px.2) ∧
    resolve (.srIndY d) s = (inBank ps.1 s.y.toNat, ps.2) ∧
    resolve (.dpIndL d) s = (⟨pl.1, .L⟩, pl.2) ∧
    resolve (.dpIndLY d) s = (⟨BitVec.ofNat 24 (pl.1.toNat + s.y.toNat), .L⟩, pl.2) ∧
    ((s.e = true ∧ d.toNat = 255) →
      resolve (.dpIndY d) s = (inBank (word (low.1.toNat + 256 * high.1.toNat)) s.y.toNat, high.2)) ∧
    (¬ (s.e = true ∧ d.toNat = 255) → resolve (.dpIndY d) s = (inBank p.1 s.y.toNat, p.2))

/-- What a source operand is: an immediate at its width, or the bytes at the effective address; and what reading it
costs: one cycle for each byte of the pointer and of the operand, one more where DP is added and its low byte is not 0,
and one more in a,X and a,Y by the stored ex or on a page crossing. Reading it changes no register, flag, latch or memory
byte (40_addressing.md R162 to R164, 70_reset_and_hazards.md R620 to R622; decisions D43, D44). -/
def Obligations.OperandReadAndItsCost : Prop :=
  ∀ (s : State) (eight : Bool),
    let direct : Nat := if s.dp.toNat % 256 = 0 then 0 else 1
    let crossing (w r : Word) : Nat :=
      if s.p.ex = false ∨ w.toNat / 256 ≠ (w.toNat + r.toNat) % 65536 / 256 then 1 else 0
    let extra (m : AddrMode) : Nat :=
      match m with
      | .dp _ | .dpX _ | .dpY _ => direct
      | .dpInd _ | .dpXInd _ | .dpIndY _ => direct + 2
      | .dpIndL _ | .dpIndLY _ => direct + 3
      | .sr _ => 0
      | .srIndY _ => 2
      | .abs _ | .absL _ | .absLX _ => 0
      | .absX w => crossing w s.x
      | .absY w => crossing w s.y
    (∀ v, operandAt eight (.imm v) s = (word (part eight v.value), s)) ∧
    ∀ m,
      let r := resolve m s
      operandAt eight (.mem m) s = memRead (widthOf eight) r.1.cls r.1.ea r.2 ∧
      (operandAt eight (.mem m) s).2 = readBy s (operandAt eight (.mem m) s).2 ∧
      (operandAt eight (.mem m) s).1.toNat < span eight ∧
      (operandAt eight (.mem m) s).2.cycles = s.cycles - extra m - (if eight then 1 else 2 : Nat)

/-! ## Loads and stores -/

/-- LDA, LDX and LDY in every form: the register at its width, n and z from the operand, and nothing else but what reading
the operand changes; with M8 AH is kept, with X8 the index register's high byte is 0 (41_load_store.md R200 to R202). -/
def Obligations.LoadResults : Prop :=
  rowsAre ldaForm modeOf (groupRows 0xA0) ∧
  rowsAre ldxForm modeOf [(0xA2, .m), (0xA6, .d), (0xAE, .a), (0xB6, .dY), (0xBE, .aY)] ∧
  rowsAre ldyForm modeOf [(0xA0, .m), (0xA4, .d), (0xAC, .a), (0xB4, .dX), (0xBC, .aX)] ∧
  ∀ (i : Instr) (o : Operand) (s : State),
    let vM := operandAt s.m8 o s
    let vX := operandAt s.x8 o s
    (ldaForm i = some o →
      exec i s = .next { readBy s vM.2 with a := accOf s vM.1.toNat, p := nzOf s.m8 vM.1.toNat s.p }) ∧
    (ldxForm i = some o →
      exec i s = .next { readBy s vX.2 with x := idxOf s vX.1.toNat, p := nzOf s.x8 vX.1.toNat s.p }) ∧
    (ldyForm i = some o →
      exec i s = .next { readBy s vX.2 with y := idxOf s vX.1.toNat, p := nzOf s.x8 vX.1.toNat s.p })

/-- STA, STX, STY and STZ in every form: the register's part at its width, or 0, is written to the effective address, low
byte first, and no register and no flag changes (41_load_store.md R203 to R206). That the low byte is written first is
decision D22, and the address of the second byte is decision D59 (20_memory.md R95, R96). -/
def Obligations.StoreResults : Prop :=
  rowsAre staForm memMode (groupMemRows 0x80) ∧
  rowsAre stxForm memMode [(0x86, .d), (0x8E, .a), (0x96, .dY)] ∧
  rowsAre styForm memMode [(0x84, .d), (0x8C, .a), (0x94, .dX)] ∧
  rowsAre stzForm memMode [(0x64, .d), (0x74, .dX), (0x9C, .a), (0x9E, .aX)] ∧
  ∀ (i : Instr) (m : AddrMode) (s : State),
    let r := resolve m s
    let stored (eight : Bool) (v : Nat) : State :=
      let first := write8 r.1.ea (BitVec.ofNat 8 (v % 256)) r.2
      writeBy s (if eight then first else write8 (nextAddr r.1.cls r.1.ea 1) (BitVec.ofNat 8 (v / 256)) first)
    (staForm i = some m → exec i s = .next (stored s.m8 s.a.toNat)) ∧
    (stxForm i = some m → exec i s = .next (stored s.x8 s.x.toNat)) ∧
    (styForm i = some m → exec i s = .next (stored s.x8 s.y.toNat)) ∧
    (stzForm i = some m → exec i s = .next (stored s.m8 0))

/-- The frame of every instruction that writes a data operand in memory (STA, STX, STY, STZ, ASL, LSR, ROL, ROR, INC, DEC,
TSB, TRB): it completes; of the registers and flags only n, z and c may change, and those not in a store; the latches
change only through the banking-control window, the yield request is raised only through the Tube window; and every RAM
cell keeps its byte but those of the operand, at the address its addressing mode gives (41_load_store.md R203 to R206,
44_rmw.md R290 to R296, R301, R302, 20_memory.md R85, R86). That the low byte is written first is decision D22. -/
def Obligations.WritersChangeOnlyTheirOperand : Prop :=
  ∀ (i : Instr) (s : State) (m : AddrMode) (eight : Bool) (v : Word), writesOperand s i = some (m, eight, v) →
    ∃ t, exec i s = .next t ∧
      t = { writeBy s t with p := { s.p with n := t.p.n, z := t.p.z, c := t.p.c } } ∧
      (shiftMemForm i = none → tsbForm i = none → trbForm i = none → t.p = s.p) ∧
      ((∀ k, ¬ operandReaches s m eight v (.bankctl k)) → t.banks = s.banks) ∧
      ((∀ reg, ¬ operandReaches s m eight v (.tube reg)) → t.yieldReq = s.yieldReq) ∧
      ∀ n, ¬ operandReaches s m eight v (.mem (.ram n)) → t.ram.read n = s.ram.read n

/-! ## Arithmetic, logic and compare -/

/-- ADC in every form, with d = 0: A + operand + c at width wM; c is the carry out of the width, v signed overflow, n and
z from the result, nothing else changes (43_alu.md R250 to R252, R257). -/
def Obligations.AdcBinaryResult : Prop :=
  rowsAre adcForm modeOf (groupRows 0x60) ∧
  ∀ (i : Instr) (o : Operand) (s : State), adcForm i = some o → s.p.d = false →
    let v := operandAt s.m8 o s
    let a := part s.m8 s.a
    let b := v.1.toNat
    let r := a + b + num s.p.c
    exec i s = .next { readBy s v.2 with
      a := accOf s r
      p := { nzOf s.m8 r s.p with
        c := decide (span s.m8 ≤ r)
        v := outside s.m8 (signed s.m8 a + signed s.m8 b + num s.p.c) } }

/-- SBC in every form, with d = 0: A - operand - (1 - c) modulo the width; c = 1 exactly when there is no borrow, v is set
when the signed difference is outside the range, n and z from the result, nothing else changes (43_alu.md R250, R253,
R258). -/
def Obligations.SbcBinaryResult : Prop :=
  rowsAre sbcForm modeOf (groupRows 0xE0) ∧
  ∀ (i : Instr) (o : Operand) (s : State), sbcForm i = some o → s.p.d = false →
    let v := operandAt s.m8 o s
    let a := part s.m8 s.a
    let b := v.1.toNat
    let borrow := 1 - num s.p.c
    let r := ((a : Int) - b - borrow) % (span s.m8 : Nat)
    exec i s = .next { readBy s v.2 with
      a := accOf s r.toNat
      p := { nzOf s.m8 r.toNat s.p with
        c := decide (b + borrow ≤ a)
        v := outside s.m8 (signed s.m8 a - signed s.m8 b - borrow) } }

/-- ADC and SBC in every form, with d = 1: the nibble loops, on any operands; one more cycle is charged and nothing else
changes (43_alu.md R254, R255, R257, R258, 70_reset_and_hazards.md R622). The loops, v, and operands that are no decimal
digits are decision D60. -/
def Obligations.DecimalLoopResult : Prop :=
  ∀ (i : Instr) (o : Operand) (s : State), s.p.d = true →
    let v := operandAt s.m8 o s
    let a := part s.m8 s.a
    let b := v.1.toNat
    let comp := span s.m8 - 1 - b
    let add := decimalOutcome s.m8 a b (decimalLoop addFix (digits s.m8) a b s.p.c) s.p
    let sub := decimalOutcome s.m8 a comp (decimalLoop subFix (digits s.m8) a comp s.p.c) s.p
    (adcForm i = some o →
      exec i s = .next { readBy s v.2 with cycles := v.2.cycles - 1, a := accOf s add.1, p := add.2 }) ∧
    (sbcForm i = some o →
      exec i s = .next { readBy s v.2 with cycles := v.2.cycles - 1, a := accOf s sub.1, p := sub.2 })

/-- On decimal digits the decimal loops do decimal arithmetic at both widths: the digits of the result are those of the
sum or the difference of the numbers the operands stand for, modulo 10^N, with the decimal carry, and no borrow, as c
(43_alu.md R254, R255; that the loop is this one is decision D60). -/
def Obligations.DecimalDigitsAddAndSubtract : Prop :=
  ∀ (eight : Bool) (a b : Word) (c : Bool),
    a.toNat < span eight → b.toNat < span eight →
    decimalDigits (digits eight) a.toNat → decimalDigits (digits eight) b.toNat →
    let value (n : Nat) := decimalValue (digits eight) n
    let total := value a.toNat + value b.toNat + num c
    let diff : Int := (value a.toNat : Int) - value b.toNat - (1 - num c : Nat)
    let sum := addDec (widthOf eight) a b c
    let dif := subDec (widthOf eight) a b c
    decimalDigits (digits eight) sum.res.toNat ∧ value sum.res.toNat = total % 10 ^ digits eight ∧
    sum.c = decide (10 ^ digits eight ≤ total) ∧ sum.res.toNat < span eight ∧
    decimalDigits (digits eight) dif.res.toNat ∧
    (value dif.res.toNat : Int) = diff % (10 ^ digits eight : Nat) ∧
    dif.c = decide (0 ≤ diff) ∧ dif.res.toNat < span eight

/-- CMP, CPX and CPY in every form: c = 1 exactly when the register is not below the operand, n and z from the difference
modulo the width; the register, v and everything else are unchanged, and d plays no part (43_alu.md R256, R259 to R261;
decision D61). -/
def Obligations.CompareResults : Prop :=
  rowsAre cmpForm modeOf (groupRows 0xC0) ∧
  rowsAre cpxForm modeOf [(0xE0, .m), (0xE4, .d), (0xEC, .a)] ∧
  rowsAre cpyForm modeOf [(0xC0, .m), (0xC4, .d), (0xCC, .a)] ∧
  ∀ (i : Instr) (o : Operand) (s : State),
    let compared (eight : Bool) (reg : Word) : State :=
      let v := operandAt eight o s
      let a := part eight reg
      let b := v.1.toNat
      { readBy s v.2 with p := { nzOf eight (a + span eight - b) s.p with c := decide (b ≤ a) } }
    (cmpForm i = some o → exec i s = .next (compared s.m8 s.a)) ∧
    (cpxForm i = some o → exec i s = .next (compared s.x8 s.x)) ∧
    (cpyForm i = some o → exec i s = .next (compared s.x8 s.y))

/-- AND, ORA and EOR in every form: the bits of the accumulator's part and the operand, n and z from the result, AH kept
under M8, nothing else changes. BIT: z tells whether the accumulator's part and the operand have no common bit; in the
memory forms n and v are the operand's two top bits, in the immediate form they are unchanged; A is unchanged
(43_alu.md R262 to R265; BIT immediate is decision D62). -/
def Obligations.LogicAndBitResults : Prop :=
  rowsAre andForm modeOf (groupRows 0x20) ∧ rowsAre oraForm modeOf (groupRows 0x00) ∧
  rowsAre eorForm modeOf (groupRows 0x40) ∧
  rowsAre bitForm memMode [(0x24, .d), (0x2C, .a), (0x34, .dX), (0x3C, .aX)] ∧
  (∀ v, (Instr.bitImm v).opcode = 0x89) ∧
  ∀ s : State,
    (∀ (i : Instr) (o : Operand),
      let v := operandAt s.m8 o s
      let put (r : Nat) : State := { readBy s v.2 with a := accOf s r, p := nzOf s.m8 r s.p }
      (andForm i = some o → exec i s = .next (put (part s.m8 s.a &&& v.1.toNat))) ∧
      (oraForm i = some o → exec i s = .next (put (part s.m8 s.a ||| v.1.toNat))) ∧
      (eorForm i = some o → exec i s = .next (put (part s.m8 s.a ^^^ v.1.toNat)))) ∧
    (∀ (i : Instr) (m : AddrMode), bitForm i = some m →
      let v := operandAt s.m8 (.mem m) s
      let b := v.1.toNat
      exec i s = .next { readBy s v.2 with
        p := { s.p with
          z := decide (part s.m8 s.a &&& b = 0)
          n := decide (span s.m8 / 2 ≤ b)
          v := decide (span s.m8 / 4 ≤ b % (span s.m8 / 2)) } }) ∧
    ∀ v : Imm, exec (.bitImm v) s =
      .next { s with p := { s.p with z := decide (part s.m8 s.a &&& part s.m8 v.value = 0) } }

/-! ## Shifts, increments, bit set and reset -/

/-- ASL, LSR, ROL, ROR, INC and DEC on the accumulator, and INX, INY, DEX and DEY: the result at the width, n and z from
it, c from the bit shifted out (INC, DEC and the index steps leave it), AH kept under M8, XH and YH 0 under X8, nothing
else changes (44_rmw.md R291 to R300). -/
def Obligations.RegisterShiftAndStepResults : Prop :=
  rowsAre shiftAccForm id
    [(0x0A, .asl), (0x4A, .lsr), (0x2A, .rol), (0x6A, .ror), (0x1A, .inc), (0x3A, .dec)] ∧
  codesAre [(.inx, 0xE8), (.iny, 0xC8), (.dex, 0xCA), (.dey, 0x88)] ∧
  ∀ s : State,
    (∀ (i : Instr) (op : Shift), shiftAccForm i = some op →
      let v := part s.m8 s.a
      exec i s = .next { s with a := accOf s (shiftResult op s.m8 v s.p.c), p := shiftFlags op s.m8 v s.p }) ∧
    (let r := s.x.toNat + 1
     exec .inx s = .next { s with x := idxOf s r, p := nzOf s.x8 r s.p }) ∧
    (let r := s.y.toNat + 1
     exec .iny s = .next { s with y := idxOf s r, p := nzOf s.x8 r s.p }) ∧
    (let r := s.x.toNat + span s.x8 - 1
     exec .dex s = .next { s with x := idxOf s r, p := nzOf s.x8 r s.p }) ∧
    (let r := s.y.toNat + span s.x8 - 1
     exec .dey s = .next { s with y := idxOf s r, p := nzOf s.x8 r s.p })

/-- ASL, LSR, ROL, ROR, INC and DEC in memory: the address is resolved once, the operand is read, one cycle is charged,
the result is written back low byte first, and n, z and c are set as on the accumulator (44_rmw.md R290 to R296,
70_reset_and_hazards.md R623). -/
def Obligations.MemoryShiftResults : Prop :=
  rowsAre shiftMemForm (fun p => (p.1, memMode p.2))
    [(0x06, .asl, .d), (0x0E, .asl, .a), (0x16, .asl, .dX), (0x1E, .asl, .aX),
     (0x46, .lsr, .d), (0x4E, .lsr, .a), (0x56, .lsr, .dX), (0x5E, .lsr, .aX),
     (0x26, .rol, .d), (0x2E, .rol, .a), (0x36, .rol, .dX), (0x3E, .rol, .aX),
     (0x66, .ror, .d), (0x6E, .ror, .a), (0x76, .ror, .dX), (0x7E, .ror, .aX),
     (0xE6, .inc, .d), (0xEE, .inc, .a), (0xF6, .inc, .dX), (0xFE, .inc, .aX),
     (0xC6, .dec, .d), (0xCE, .dec, .a), (0xD6, .dec, .dX), (0xDE, .dec, .aX)] ∧
  ∀ (i : Instr) (op : Shift) (m : AddrMode) (s : State), shiftMemForm i = some (op, m) →
    let r := resolve m s
    let v := memRead (widthOf s.m8) r.1.cls r.1.ea r.2
    let ready := { v.2 with cycles := v.2.cycles - 1, p := shiftFlags op s.m8 v.1.toNat s.p }
    exec i s =
      .next (memWrite (widthOf s.m8) r.1.cls r.1.ea (word (shiftResult op s.m8 v.1.toNat s.p.c)) ready)

/-- TSB and TRB: z tells whether the accumulator's part and the operand have no common bit, and the accumulator's bits are
set in the operand, or reset in it; the other flags and A are unchanged (44_rmw.md R290, R301, R302). -/
def Obligations.TestBitsResults : Prop :=
  rowsAre tsbForm memMode [(0x04, .d), (0x0C, .a)] ∧ rowsAre trbForm memMode [(0x14, .d), (0x1C, .a)] ∧
  ∀ (i : Instr) (m : AddrMode) (s : State),
    let r := resolve m s
    let v := memRead (widthOf s.m8) r.1.cls r.1.ea r.2
    let acc := part s.m8 s.a
    let old := v.1.toNat
    let ready := { v.2 with cycles := v.2.cycles - 1, p := { s.p with z := decide (acc &&& old = 0) } }
    (tsbForm i = some m → exec i s = .next (memWrite (widthOf s.m8) r.1.cls r.1.ea (word (old ||| acc)) ready)) ∧
    (trbForm i = some m →
      exec i s = .next (memWrite (widthOf s.m8) r.1.cls r.1.ea (word (old - (old &&& acc))) ready))

/-! ## Transfers and block moves -/

/-- The register transfers: the width is the destination's, whatever the source's; TCD, TDC, TCS and TSC move all 16 bits
of A; TXS and TCS keep SH at 01H in emulation mode and write no flag; XBA exchanges AH and AL with n and z from the new
AL; nothing else changes (42_transfer_blockmove.md R220 to R232; TXS and TCS in emulation mode are decision D71). -/
def Obligations.TransferResults : Prop :=
  codesAre [(.tax, 0xAA), (.tay, 0xA8), (.txa, 0x8A), (.tya, 0x98), (.tsx, 0xBA), (.txs, 0x9A), (.txy, 0x9B),
    (.tyx, 0xBB), (.tcd, 0x5B), (.tdc, 0x7B), (.tcs, 0x1B), (.tsc, 0x3B), (.xba, 0xEB)] ∧
  ∀ s : State,
    let toX (v : Word) : State := { s with x := idxOf s v.toNat, p := nzOf s.x8 v.toNat s.p }
    let toY (v : Word) : State := { s with y := idxOf s v.toNat, p := nzOf s.x8 v.toNat s.p }
    let toA (v : Word) : State := { s with a := accOf s v.toNat, p := nzOf s.m8 v.toNat s.p }
    let toS (v : Word) : State := { s with s := if s.e then word (0x100 + v.toNat % 256) else v }
    exec .tax s = .next (toX s.a) ∧ exec .tay s = .next (toY s.a) ∧
    exec .txa s = .next (toA s.x) ∧ exec .tya s = .next (toA s.y) ∧
    exec .tsx s = .next (toX s.s) ∧ exec .txs s = .next (toS s.x) ∧
    exec .txy s = .next (toY s.x) ∧ exec .tyx s = .next (toX s.y) ∧
    exec .tcd s = .next { s with dp := s.a, p := nzOf false s.a.toNat s.p } ∧
    exec .tdc s = .next { s with a := s.dp, p := nzOf false s.dp.toNat s.p } ∧
    exec .tcs s = .next (toS s.a) ∧
    exec .tsc s = .next { s with a := s.s, p := nzOf false s.s.toNat s.p } ∧
    exec .xba s = .next { s with
      a := word (s.a.toNat % 256 * 256 + s.a.toNat / 256), p := nzOf true (s.a.toNat / 256) s.p }

/-- MVN and MVP move one byte for each execution: from src:X to dst:Y, DBR becomes the destination bank, X and Y go up or
down by one at width wX, the 16-bit count in A goes down, and unless it was 0 the instruction runs again; no flag changes
(42_transfer_blockmove.md R233 to R236; one byte for each execution is decision D67). -/
def Obligations.BlockMoveMovesOneByte : Prop :=
  (∀ dst src, (Instr.mvn dst src).opcode = 0x54 ∧ (Instr.mvp dst src).opcode = 0x44) ∧
  ∀ (dst src : Byte) (s : State),
    let b := read8 (BitVec.ofNat 24 (src.toNat * 65536 + s.x.toNat)) s
    let t := write8 (BitVec.ofNat 24 (dst.toNat * 65536 + s.y.toNat)) b.1 b.2
    let moved (delta : Nat) : State := { writeBy s t with
      dbr := dst
      x := idxOf s (s.x.toNat + delta)
      y := idxOf s (s.y.toNat + delta)
      a := word (s.a.toNat + 65535)
      pc := if s.a.toNat = 0 then s.pc else word (s.pc.toNat + 65536 - 3) }
    exec (.mvn dst src) s = .next (moved 1) ∧ exec (.mvp dst src) s = .next (moved 65535)

/-! ## Control flow -/

/-- A branch adds its sign-extended displacement to PC, which is past the operand, modulo 2^16, if its condition holds;
otherwise PC stays; PBR, the flags and everything else are unchanged (45_control.md R320 to R330, 40_addressing.md R179,
R180). -/
def Obligations.BranchResults : Prop :=
  rowsAre branchForm Prod.fst
    [(0x10, .plus), (0x30, .minus), (0x50, .overflowClear), (0x70, .overflowSet), (0x90, .carryClear),
     (0xB0, .carrySet), (0xD0, .notEqual), (0xF0, .equal), (0x80, .always)] ∧
  (∀ r, (Instr.brl r).opcode = 0x82) ∧
  ∀ s : State,
    (∀ (i : Instr) (c : Cond) (r : Byte), branchForm i = some (c, r) →
      exec i s = .next { s with
        pc := if c.holds s.p then word (((s.pc.toNat : Int) + signed true r.toNat) % 65536).toNat else s.pc }) ∧
    ∀ r : Word, exec (.brl r) s = .next { s with pc := word (s.pc.toNat + r.toNat) }

/-- JMP and JML: the operand, or the pointer it names, becomes PC; JML also writes PBR. The pointer of JMP (a) and JML [a]
is in bank 0 and that of JMP (a,X) in bank PBR, its further bytes at the next offsets of the bank (45_control.md R331,
R332, 40_addressing.md R181 to R185; decisions D56, D57). -/
def Obligations.JumpResults : Prop :=
  (∀ w l p, (Instr.jmpAbs w).opcode = 0x4C ∧ (Instr.jmpInd p).opcode = 0x6C ∧ (Instr.jmpXInd p).opcode = 0x7C ∧
    (Instr.jmlLong l).opcode = 0x5C ∧ (Instr.jmlInd p).opcode = 0xDC) ∧
  ∀ (s : State) (w : Word) (l : Addr),
    let in0 (n : Nat) : Addr := BitVec.ofNat 24 (n % 65536)
    let inP (n : Nat) : Addr := BitVec.ofNat 24 (s.pbr.toNat * 65536 + n % 65536)
    let b0 := read8 (in0 w.toNat) s
    let b1 := read8 (in0 (w.toNat + 1)) b0.2
    let b2 := read8 (in0 (w.toNat + 2)) b1.2
    let p0 := read8 (inP (w.toNat + s.x.toNat)) s
    let p1 := read8 (inP (w.toNat + s.x.toNat + 1)) p0.2
    exec (.jmpAbs w) s = .next { s with pc := w } ∧
    exec (.jmpInd w) s = .next { readBy s b1.2 with pc := word (b0.1.toNat + 256 * b1.1.toNat) } ∧
    exec (.jmpXInd w) s = .next { readBy s p1.2 with pc := word (p0.1.toNat + 256 * p1.1.toNat) } ∧
    exec (.jmlLong l) s = .next { s with pc := word (l.toNat % 65536), pbr := BitVec.ofNat 8 (l.toNat / 65536) } ∧
    exec (.jmlInd w) s = .next { readBy s b2.2 with pc := word (b0.1.toNat + 256 * b1.1.toNat), pbr := b2.1 }

/-- JSR and JSL push the address of the instruction's last byte, high byte first (JSL pushes PBR before it), and jump; for
JSR (a,X) the push comes before the pointer is read, in bank PBR (45_control.md R333, R334; the order is decision D22).
Of the registers, only PC, S and, for JSL, PBR change. -/
def Obligations.CallResults : Prop :=
  (∀ w l p, (Instr.jsrAbs w).opcode = 0x20 ∧ (Instr.jsrXInd p).opcode = 0xFC ∧ (Instr.jsl l).opcode = 0x22) ∧
  ∀ (s : State) (w : Word) (l : Addr),
    let ret := word (s.pc.toNat + 65535)
    let short := pushAll (highFirst ret) s
    let long := pushAll (s.pbr :: highFirst ret) s
    let inP (n : Nat) : Addr := BitVec.ofNat 24 (s.pbr.toNat * 65536 + n % 65536)
    let p0 := read8 (inP (w.toNat + s.x.toNat)) short
    let p1 := read8 (inP (w.toNat + s.x.toNat + 1)) p0.2
    exec (.jsrAbs w) s = .next { stackBy s short with pc := w } ∧
    exec (.jsrXInd w) s = .next { stackBy s p1.2 with pc := word (p0.1.toNat + 256 * p1.1.toNat) } ∧
    exec (.jsl l) s = .next { stackBy s long with
      pc := word (l.toNat % 65536), pbr := BitVec.ofNat 8 (l.toNat / 65536) }

/-- RTS and RTL: PC is the pulled word plus one, and RTL then pulls PBR; S moves by two or by three, no flag and no memory
byte changes (45_control.md R335, R336). -/
def Obligations.ReturnResults : Prop :=
  codesAre [(.rts, 0x60), (.rtl, 0x6B)] ∧
  ∀ s : State,
    let b0 := read8 (bank0 (spUp s 1)) { s with s := spUp s 1 }
    let b1 := read8 (bank0 (spUp s 2)) { b0.2 with s := spUp s 2 }
    let b2 := read8 (bank0 (spUp s 3)) { b1.2 with s := spUp s 3 }
    let target := word (b0.1.toNat + 256 * b1.1.toNat + 1)
    exec .rts s = .next { readBy s b1.2 with s := spUp s 2, pc := target } ∧
    exec .rtl s = .next { readBy s b2.2 with s := spUp s 3, pc := target, pbr := b2.1 }

/-- A return comes back to the instruction after the call: after either form of JSR and RTS, or JSL and RTL, with the stack
in RAM and untouched between them, PC, PBR, S and every other register and flag are as before the call (45_control.md R333
to R336, 46_stack.md R350 to R353; the stack wrap is decision D66, and that JSR (a,X) pushes before it reads its pointer
is decision D22). -/
def Obligations.ReturnUndoesCall : Prop :=
  ∀ s : State, s.ram.wf = true → s.stackPageOk = true →
    (∀ w : Word, ramStack s 2 →
      ∃ t u, exec (.jsrAbs w) s = .next t ∧ exec .rts t = .next u ∧
        u = { s with cycles := u.cycles, host := s.host, ram := t.ram }) ∧
    (∀ p : Word, ramStack s 2 →
      ∃ t u, exec (.jsrXInd p) s = .next t ∧ exec .rts t = .next u ∧
        u = { s with cycles := u.cycles, host := t.host, ram := t.ram }) ∧
    ∀ l : Addr, ramStack s 3 →
      ∃ t u, exec (.jsl l) s = .next t ∧ exec .rtl t = .next u ∧
        u = { s with cycles := u.cycles, host := s.host, ram := t.ram }

/-! ## The stack -/

/-- `Push8` writes at 00:S and then moves S down; `Pull8` moves S up and then reads at 00:S; in emulation mode S wraps
within page 1. `Push16` pushes the high byte first and `Pull16` pulls the low byte first. Beyond S a push changes what a
byte write changes and a pull what a byte read changes (46_stack.md R350 to R353; the wrap is decision D66). -/
def Obligations.StackPrimitives : Prop :=
  ∀ (s : State) (v : Byte) (w : Word),
    push8 v s = { write8 (bank0 s.s) v s with s := spAfter s 1 } ∧
    pull8 s = read8 (bank0 (spUp s 1)) { s with s := spUp s 1 } ∧
    push16 w s = pushAll (highFirst w) s ∧
    (pull16 s).1.toNat = (pull8 s).1.toNat + 256 * (pull8 (pull8 s).2).1.toNat ∧
    (pull16 s).2 = { readBy s (pull8 (pull8 s).2).2 with s := spUp s 2 }

/-- The pushes (PHA, PHX, PHY, PHP, PHB, PHD, PHK, PEA, PER, and PEI after it read its pointer): the bytes pushed and
their order; of the registers and flags only S changes; and every RAM cell keeps its byte but those the pushes store to
(46_stack.md R354 to R360, R367 to R369; the bits 4 and 5 that PHP pushes in emulation mode are decision D70). -/
def Obligations.PushResults : Prop :=
  codesAre [(.pha, 0x48), (.phx, 0xDA), (.phy, 0x5A), (.php, 0x08), (.phb, 0x8B), (.phd, 0x0B), (.phk, 0x4B)] ∧
  (∀ w d, (Instr.pea w).opcode = 0xF4 ∧ (Instr.per w).opcode = 0x62 ∧ (Instr.pei d).opcode = 0xD4) ∧
  ∀ s : State,
    (∀ (i : Instr) (bytes : List Byte), pushForm s i = some bytes → exec i s = .next (pushAll bytes s)) ∧
    (∀ d : Byte,
      let v := operandAt false (.mem (.dp d)) s
      exec (.pei d) s = .next (pushAll (highFirst v.1) v.2)) ∧
    ∀ bytes : List Byte,
      pushAll bytes s = stackBy s (pushAll bytes s) ∧
      (pushAll bytes s).s = spAfter s bytes.length ∧
      ∀ n, ¬ pushHits s bytes n → (pushAll bytes s).ram.read n = s.ram.read n

/-- PLA, PLX, PLY, PLB and PLD: the register at its width, n and z from the value pulled. PLP: in native mode all eight
flags, and a pulled ex zeroes XH and YH at once; in emulation mode bits 4 and 5 are ignored and the stored m and ex
become 0. S moves up by the bytes pulled and nothing else changes but what the reads change (46_stack.md R361 to R366,
10_state.md R40, R43, R44; the stored m and ex are decision D65). -/
def Obligations.PullResults : Prop :=
  codesAre [(.pla, 0x68), (.plx, 0xFA), (.ply, 0x7A), (.plb, 0xAB), (.plp, 0x28), (.pld, 0x2B)] ∧
  ∀ s : State,
    let pulled (eight : Bool) : Nat × State :=
      let l := pull8 s
      let h := pull8 l.2
      if eight then (l.1.toNat, { readBy s l.2 with s := spUp s 1 })
      else (l.1.toNat + 256 * h.1.toNat, { readBy s h.2 with s := spUp s 2 })
    let vM := pulled s.m8
    let vX := pulled s.x8
    let v := pulled true
    let bit (k : Nat) : Bool := decide (v.1 / 2 ^ k % 2 = 1)
    let ex := !s.e && bit 4
    exec .pla s = .next { vM.2 with a := accOf s vM.1, p := nzOf s.m8 vM.1 s.p } ∧
    exec .plx s = .next { vX.2 with x := idxOf s vX.1, p := nzOf s.x8 vX.1 s.p } ∧
    exec .ply s = .next { vX.2 with y := idxOf s vX.1, p := nzOf s.x8 vX.1 s.p } ∧
    exec .plb s = .next { v.2 with dbr := BitVec.ofNat 8 v.1, p := nzOf true v.1 s.p } ∧
    exec .pld s = .next { (pulled false).2 with
      dp := word (pulled false).1, p := nzOf false (pulled false).1 s.p } ∧
    exec .plp s = .next { v.2 with
      p := { c := bit 0, z := bit 1, i := bit 2, d := bit 3, ex := ex, m := !s.e && bit 5, v := bit 6, n := bit 7 }
      x := if ex then word (s.x.toNat % 256) else s.x
      y := if ex then word (s.y.toNat % 256) else s.y }

/-! ## The status register -/

/-- The two packings of the status byte, bit by bit as a number, and that native unpacking restores all eight flags of a
native packing (10_state.md R41 to R44). -/
def Obligations.StatusByteLayout : Prop :=
  ∀ (f : Flags) (brk : Bool) (b : Byte),
    (packN f).toNat = num f.c + 2 * num f.z + 4 * num f.i + 8 * num f.d + 16 * num f.ex + 32 * num f.m + 64 * num f.v +
      128 * num f.n ∧
    (packE brk f).toNat = num f.c + 2 * num f.z + 4 * num f.i + 8 * num f.d + 16 * num brk + 32 + 64 * num f.v +
      128 * num f.n ∧
    flagsN (packN f) = f ∧ packN (flagsN b) = b ∧
    flagsE (packE brk f) = { f with m := false, ex := false }

/-- CLC, SEC, CLI, SEI, CLD, SED and CLV write their one flag and nothing else. NOP and WDM change nothing. WAI sets wai.
STP moves PC back to its opcode and debits STP_CYCLES (47_flags_mode_system.md R380 to R386, R395 to R398; WDM is
decision D68). -/
def Obligations.FlagAndHaltResults : Prop :=
  codesAre [(.clc, 0x18), (.sec, 0x38), (.cli, 0x58), (.sei, 0x78), (.cld, 0xD8), (.sed, 0xF8), (.clv, 0xB8),
    (.nop, 0xEA), (.wai, 0xCB), (.stp, 0xDB)] ∧
  (∀ k, (Instr.wdm k).opcode = 0x42) ∧
  ∀ s : State,
    exec .clc s = .next { s with p := { s.p with c := false } } ∧
    exec .sec s = .next { s with p := { s.p with c := true } } ∧
    exec .cli s = .next { s with p := { s.p with i := false } } ∧
    exec .sei s = .next { s with p := { s.p with i := true } } ∧
    exec .cld s = .next { s with p := { s.p with d := false } } ∧
    exec .sed s = .next { s with p := { s.p with d := true } } ∧
    exec .clv s = .next { s with p := { s.p with v := false } } ∧
    exec .nop s = .next s ∧ (∀ k, exec (.wdm k) s = .next s) ∧
    exec .wai s = .next { s with wai := true } ∧
    exec .stp s = .next { s with pc := word (s.pc.toNat + 65535), cycles := s.cycles - s.cfg.stpCycles }

/-- REP resets and SEP sets the flags whose bits are set in the mask; in emulation mode bits 4 and 5 have no effect; if ex
is then set, XH and YH are zeroed at once; nothing else changes (47_flags_mode_system.md R390, R391, 10_state.md R40;
emulation mode is decision D64). -/
def Obligations.RepSepResults : Prop :=
  (∀ k, (Instr.rep k).opcode = 0xC2 ∧ (Instr.sep k).opcode = 0xE2) ∧
  ∀ (s : State) (k : Byte),
    let bit (j : Nat) : Bool := decide (k.toNat / 2 ^ j % 2 = 1)
    let width (j : Nat) : Bool := !s.e && bit j
    let put (f : Flags) : State := { s with
      p := f
      x := if f.ex then word (s.x.toNat % 256) else s.x
      y := if f.ex then word (s.y.toNat % 256) else s.y }
    exec (.rep k) s = .next (put {
      c := s.p.c && !bit 0, z := s.p.z && !bit 1, i := s.p.i && !bit 2, d := s.p.d && !bit 3
      ex := s.p.ex && !width 4, m := s.p.m && !width 5, v := s.p.v && !bit 6, n := s.p.n && !bit 7 }) ∧
    exec (.sep k) s = .next (put {
      c := s.p.c || bit 0, z := s.p.z || bit 1, i := s.p.i || bit 2, d := s.p.d || bit 3
      ex := s.p.ex || width 4, m := s.p.m || width 5, v := s.p.v || bit 6, n := s.p.n || bit 7 })

/-- XCE exchanges c and e. Entry to native mode from emulation mode forces m and ex to 1; where e is then 1, SH is 01H and
XH and YH are 0; nothing else changes (47_flags_mode_system.md R392; the forcing and the writes on entry to emulation
mode are decisions D63 and D72). -/
def Obligations.XceResult : Prop :=
  codesAre [(.xce, 0xFB)] ∧
  ∀ s : State,
    let force := s.e && !s.p.c
    exec .xce s = .next { s with
      e := s.p.c
      p := { s.p with c := s.e, m := s.p.m || force, ex := s.p.ex || force }
      s := if s.p.c then word (0x100 + s.s.toNat % 256) else s.s
      x := if s.p.c then word (s.x.toNat % 256) else s.x
      y := if s.p.c then word (s.y.toNat % 256) else s.y }

/-! ## Interrupts -/

/-- BRK and COP, and the entries of NMI and IRQ, take the entry sequence: PBR (native mode only), PC and the status byte
are pushed, i is set and d cleared, PBR becomes 0, wai is cleared, and PC is the word at the event's vector, in bank NVB
in native mode and in bank 0 in emulation mode. e, m, ex, A, X, Y, DP, DBR, the latches but through the pushes, ROM and
the input bits are unchanged (60_exceptions.md R509, R510, 47_flags_mode_system.md R400, R401; decisions D32 to D34, D37,
D70). -/
def Obligations.InterruptEntryResult : Prop :=
  (∀ k, (Instr.brk k).opcode = 0x00 ∧ (Instr.cop k).opcode = 0x02) ∧
  ∀ s : State,
    (∀ k, exec (.brk k) s = .next (entered .brk s) ∧ exec (.cop k) s = .next (entered .cop s)) ∧
    ∀ k : Event, interrupt k s = entered k s ∧
      entered k s = { stackBy s (entered k s) with
        s := spAfter s (if s.e then 3 else 4)
        p := { s.p with i := true, d := false }, pbr := 0, wai := false, pc := (entered k s).pc } ∧
      ∀ n, ¬ pushHits s (frameOf k s) n → (entered k s).ram.read n = s.ram.read n

/-- RTI pulls the status byte, then PC, then in native mode PBR; the pulled PC is not incremented
(47_flags_mode_system.md R403, 10_state.md R40, R43, R44). -/
def Obligations.ReturnFromInterruptResult : Prop :=
  codesAre [(.rti, 0x40)] ∧
  ∀ s : State,
    let b0 := read8 (bank0 (spUp s 1)) { s with s := spUp s 1 }
    let b1 := read8 (bank0 (spUp s 2)) { b0.2 with s := spUp s 2 }
    let b2 := read8 (bank0 (spUp s 3)) { b1.2 with s := spUp s 3 }
    let b3 := read8 (bank0 (spUp s 4)) { b2.2 with s := spUp s 4 }
    let bit (k : Nat) : Bool := decide (b0.1.toNat / 2 ^ k % 2 = 1)
    let target := word (b1.1.toNat + 256 * b2.1.toNat)
    exec .rti s = .next (if s.e then
      { readBy s b2.2 with
        s := spUp s 3, pc := target
        p := { c := bit 0, z := bit 1, i := bit 2, d := bit 3, ex := false, m := false, v := bit 6, n := bit 7 } }
    else
      { readBy s b3.2 with
        s := spUp s 4, pc := target, pbr := b3.1
        p := { c := bit 0, z := bit 1, i := bit 2, d := bit 3, ex := bit 4, m := bit 5, v := bit 6, n := bit 7 }
        x := if bit 4 then word (s.x.toNat % 256) else s.x
        y := if bit 4 then word (s.y.toNat % 256) else s.y })

/-- RTI reverses an interrupt entry when e has not changed between: with the frame in RAM and untouched, PC, S, the flags
(in native mode all eight and PBR, in emulation mode all but the stored m and ex) and every other register are as before
the entry (60_exceptions.md R511; that RTI leaves the stored m and ex 0 in emulation mode is decision D65, and PBR 0
after an entry in emulation mode is decision D33). -/
def Obligations.ReturnReversesInterrupt : Prop :=
  ∀ (k : Event) (s : State), s.ram.wf = true → s.stackPageOk = true → s.indexHighOk = true →
    ramStack s (if s.e then 3 else 4) →
    ∃ t, exec .rti (interrupt k s) = .next t ∧
      t = { s with
        cycles := t.cycles, host := (interrupt k s).host, ram := (interrupt k s).ram, wai := false
        pbr := if s.e then 0 else s.pbr
        p := if s.e then { s.p with m := false, ex := false } else s.p }

/-! ## Whole-machine rules -/

/-- No instruction writes a flag that the table of 10_state.md R56 does not list for it: a flag that an instruction
changes is one of those its row of the table names. -/
def Obligations.FlagWriters : Prop :=
  ∀ (i : Instr) (s t : State), exec i s = .next t →
    (t.p.c ≠ s.p.c → i.opcode ∈ [
  0x61, 0x63, 0x65, 0x67, 0x69, 0x6D, 0x6F, 0x71, 0x72, 0x73, 0x75, 0x77, 0x79, 0x7D, 0x7F, 0xE1, 0xE3, 0xE5, 0xE7,
  0xE9, 0xED, 0xEF, 0xF1, 0xF2, 0xF3, 0xF5, 0xF7, 0xF9, 0xFD, 0xFF, 0xC1, 0xC3, 0xC5, 0xC7, 0xC9, 0xCD, 0xCF, 0xD1,
  0xD2, 0xD3, 0xD5, 0xD7, 0xD9, 0xDD, 0xDF, 0xE0, 0xE4, 0xEC, 0xC0, 0xC4, 0xCC, 0x06, 0x0A, 0x0E, 0x16, 0x1E, 0x46,
  0x4A, 0x4E, 0x56, 0x5E, 0x26, 0x2A, 0x2E, 0x36, 0x3E, 0x66, 0x6A, 0x6E, 0x76, 0x7E, 0x18, 0x38, 0xFB, 0x28, 0x40,
  0xC2, 0xE2]) ∧
    (t.p.v ≠ s.p.v → i.opcode ∈ [
  0x61, 0x63, 0x65, 0x67, 0x69, 0x6D, 0x6F, 0x71, 0x72, 0x73, 0x75, 0x77, 0x79, 0x7D, 0x7F, 0xE1, 0xE3, 0xE5, 0xE7,
  0xE9, 0xED, 0xEF, 0xF1, 0xF2, 0xF3, 0xF5, 0xF7, 0xF9, 0xFD, 0xFF, 0xB8, 0x24, 0x2C, 0x34, 0x3C, 0x89, 0x28, 0x40,
  0xC2, 0xE2] ∧ i.opcode ≠ 0x89) ∧
    (t.p.n ≠ s.p.n → i.opcode ∈ [
  0xA1, 0xA3, 0xA5, 0xA7, 0xA9, 0xAD, 0xAF, 0xB1, 0xB2, 0xB3, 0xB5, 0xB7, 0xB9, 0xBD, 0xBF, 0xA2, 0xA6, 0xAE, 0xB6,
  0xBE, 0xA0, 0xA4, 0xAC, 0xB4, 0xBC, 0x68, 0xFA, 0x7A, 0xAB, 0x2B, 0xAA, 0xA8, 0x8A, 0x98, 0xBA, 0x9B, 0xBB, 0x5B,
  0x7B, 0x3B, 0xEB, 0x21, 0x23, 0x25, 0x27, 0x29, 0x2D, 0x2F, 0x31, 0x32, 0x33, 0x35, 0x37, 0x39, 0x3D, 0x3F, 0x01,
  0x03, 0x05, 0x07, 0x09, 0x0D, 0x0F, 0x11, 0x12, 0x13, 0x15, 0x17, 0x19, 0x1D, 0x1F, 0x41, 0x43, 0x45, 0x47, 0x49,
  0x4D, 0x4F, 0x51, 0x52, 0x53, 0x55, 0x57, 0x59, 0x5D, 0x5F, 0x61, 0x63, 0x65, 0x67, 0x69, 0x6D, 0x6F, 0x71, 0x72,
  0x73, 0x75, 0x77, 0x79, 0x7D, 0x7F, 0xE1, 0xE3, 0xE5, 0xE7, 0xE9, 0xED, 0xEF, 0xF1, 0xF2, 0xF3, 0xF5, 0xF7, 0xF9,
  0xFD, 0xFF, 0xC1, 0xC3, 0xC5, 0xC7, 0xC9, 0xCD, 0xCF, 0xD1, 0xD2, 0xD3, 0xD5, 0xD7, 0xD9, 0xDD, 0xDF, 0xE0, 0xE4,
  0xEC, 0xC0, 0xC4, 0xCC, 0x1A, 0xE6, 0xEE, 0xF6, 0xFE, 0x3A, 0xC6, 0xCE, 0xD6, 0xDE, 0xE8, 0xC8, 0xCA, 0x88, 0x06,
  0x0A, 0x0E, 0x16, 0x1E, 0x46, 0x4A, 0x4E, 0x56, 0x5E, 0x26, 0x2A, 0x2E, 0x36, 0x3E, 0x66, 0x6A, 0x6E, 0x76, 0x7E,
  0x24, 0x2C, 0x34, 0x3C, 0x89, 0x28, 0x40, 0xC2, 0xE2] ∧ i.opcode ≠ 0x89) ∧
    (t.p.z ≠ s.p.z → i.opcode ∈ [
  0xA1, 0xA3, 0xA5, 0xA7, 0xA9, 0xAD, 0xAF, 0xB1, 0xB2, 0xB3, 0xB5, 0xB7, 0xB9, 0xBD, 0xBF, 0xA2, 0xA6, 0xAE, 0xB6,
  0xBE, 0xA0, 0xA4, 0xAC, 0xB4, 0xBC, 0x68, 0xFA, 0x7A, 0xAB, 0x2B, 0xAA, 0xA8, 0x8A, 0x98, 0xBA, 0x9B, 0xBB, 0x5B,
  0x7B, 0x3B, 0xEB, 0x21, 0x23, 0x25, 0x27, 0x29, 0x2D, 0x2F, 0x31, 0x32, 0x33, 0x35, 0x37, 0x39, 0x3D, 0x3F, 0x01,
  0x03, 0x05, 0x07, 0x09, 0x0D, 0x0F, 0x11, 0x12, 0x13, 0x15, 0x17, 0x19, 0x1D, 0x1F, 0x41, 0x43, 0x45, 0x47, 0x49,
  0x4D, 0x4F, 0x51, 0x52, 0x53, 0x55, 0x57, 0x59, 0x5D, 0x5F, 0x61, 0x63, 0x65, 0x67, 0x69, 0x6D, 0x6F, 0x71, 0x72,
  0x73, 0x75, 0x77, 0x79, 0x7D, 0x7F, 0xE1, 0xE3, 0xE5, 0xE7, 0xE9, 0xED, 0xEF, 0xF1, 0xF2, 0xF3, 0xF5, 0xF7, 0xF9,
  0xFD, 0xFF, 0xC1, 0xC3, 0xC5, 0xC7, 0xC9, 0xCD, 0xCF, 0xD1, 0xD2, 0xD3, 0xD5, 0xD7, 0xD9, 0xDD, 0xDF, 0xE0, 0xE4,
  0xEC, 0xC0, 0xC4, 0xCC, 0x1A, 0xE6, 0xEE, 0xF6, 0xFE, 0x3A, 0xC6, 0xCE, 0xD6, 0xDE, 0xE8, 0xC8, 0xCA, 0x88, 0x06,
  0x0A, 0x0E, 0x16, 0x1E, 0x46, 0x4A, 0x4E, 0x56, 0x5E, 0x26, 0x2A, 0x2E, 0x36, 0x3E, 0x66, 0x6A, 0x6E, 0x76, 0x7E,
  0x24, 0x2C, 0x34, 0x3C, 0x89, 0x04, 0x0C, 0x14, 0x1C, 0x28, 0x40, 0xC2, 0xE2]) ∧
    (t.p.i ≠ s.p.i → i.opcode ∈ [
  0x58, 0x78, 0x28, 0x40, 0xC2, 0xE2, 0x00, 0x02]) ∧
    (t.p.d ≠ s.p.d → i.opcode ∈ [
  0xD8, 0xF8, 0x28, 0x40, 0xC2, 0xE2, 0x00, 0x02]) ∧
    (t.p.m ≠ s.p.m → i.opcode ∈ [
  0xC2, 0xE2, 0x28, 0x40, 0xFB]) ∧
    (t.p.ex ≠ s.p.ex → i.opcode ∈ [
  0xC2, 0xE2, 0x28, 0x40, 0xFB]) ∧
    (t.e ≠ s.e → i.opcode ∈ [
  0xFB])

/-- No instruction writes a register that the table of 10_state.md R58 does not list for it; X and Y may also lose their
high bytes in the events of R40 (SEP, PLP, RTI, XCE). For X and Y the state keeps the index-high invariant of R40, which
every step keeps (StepKeepsInvariant). -/
def Obligations.RegisterWriters : Prop :=
  ∀ (i : Instr) (s t : State), exec i s = .next t →
    (t.a ≠ s.a → i.opcode ∈ [
  0xA1, 0xA3, 0xA5, 0xA7, 0xA9, 0xAD, 0xAF, 0xB1, 0xB2, 0xB3, 0xB5, 0xB7, 0xB9, 0xBD, 0xBF, 0x68, 0x8A, 0x98, 0x7B,
  0x3B, 0xEB, 0x61, 0x63, 0x65, 0x67, 0x69, 0x6D, 0x6F, 0x71, 0x72, 0x73, 0x75, 0x77, 0x79, 0x7D, 0x7F, 0xE1, 0xE3,
  0xE5, 0xE7, 0xE9, 0xED, 0xEF, 0xF1, 0xF2, 0xF3, 0xF5, 0xF7, 0xF9, 0xFD, 0xFF, 0x21, 0x23, 0x25, 0x27, 0x29, 0x2D,
  0x2F, 0x31, 0x32, 0x33, 0x35, 0x37, 0x39, 0x3D, 0x3F, 0x01, 0x03, 0x05, 0x07, 0x09, 0x0D, 0x0F, 0x11, 0x12, 0x13,
  0x15, 0x17, 0x19, 0x1D, 0x1F, 0x41, 0x43, 0x45, 0x47, 0x49, 0x4D, 0x4F, 0x51, 0x52, 0x53, 0x55, 0x57, 0x59, 0x5D,
  0x5F, 0x54, 0x44,
  0x0A, 0x4A, 0x2A, 0x6A, 0x1A, 0x3A]) ∧
    (s.indexHighOk = true → t.x ≠ s.x → i.opcode ∈ [
  0xA2, 0xA6, 0xAE, 0xB6, 0xBE, 0xFA, 0xAA, 0xBA, 0xBB, 0xE8, 0xCA, 0x54, 0x44, 0xE2, 0x28, 0x40, 0xFB]) ∧
    (s.indexHighOk = true → t.y ≠ s.y → i.opcode ∈ [
  0xA0, 0xA4, 0xAC, 0xB4, 0xBC, 0x7A, 0xA8, 0x9B, 0xC8, 0x88, 0x54, 0x44, 0xE2, 0x28, 0x40, 0xFB]) ∧
    (t.s ≠ s.s → i.opcode ∈ [
  0x9A, 0x1B, 0x48, 0xDA, 0x5A, 0x08, 0x8B, 0x0B, 0x4B, 0xF4, 0xD4, 0x62, 0x68, 0xFA, 0x7A, 0xAB, 0x28, 0x2B, 0x20,
  0xFC, 0x22, 0x60, 0x6B, 0xFB, 0x00, 0x02, 0x40]) ∧
    (t.dp ≠ s.dp → i.opcode ∈ [
  0x5B, 0x2B]) ∧
    (t.pbr ≠ s.pbr → i.opcode ∈ [
  0x5C, 0xDC, 0x22, 0x6B, 0x40, 0x00, 0x02]) ∧
    (t.dbr ≠ s.dbr → i.opcode ∈ [
  0xAB, 0x54, 0x44]) ∧
    (t.wai ≠ s.wai → i.opcode ∈ [
  0xCB, 0x00, 0x02]) ∧
    t.lines = s.lines ∧ t.host.inputs = s.host.inputs

/-- A program cannot observe the cycle counter: two machines that differ in it alone do the same step, and differ in it
alone after it (10_state.md R50, 60_exceptions.md R503, R517). -/
def Obligations.CyclesAreInvisible : Prop :=
  ∀ (s t u : State) (n : Int), step s = .next t → step { s with cycles := n } = .next u →
    u = { t with cycles := u.cycles }
end

