-- ==== Sys2Proof/Laws/Bits.lean ====
section
/-! SUPPORT. Laws/Bits.lean: what the byte views, the joins and the widths do, first as numbers. -/

namespace Sys2Proof.Machine

/-! ### As numbers -/

theorem toNat_join (h l : Byte) : (join h l).toNat = h.toNat * 256 + l.toNat := by
  have hl := l.isLt
  have ha : (join h l).toNat = h.toNat <<< 8 ||| l.toNat := BitVec.toNat_append h l
  rw [ha, ← Nat.shiftLeft_add_eq_or_of_lt hl, Nat.shiftLeft_eq]

theorem toNat_addr (b : Byte) (w : Word) : (addr b w).toNat = b.toNat * 65536 + w.toNat := by
  have hw := w.isLt
  have ha : (addr b w).toNat = b.toNat <<< 16 ||| w.toNat := BitVec.toNat_append b w
  rw [ha, ← Nat.shiftLeft_add_eq_or_of_lt hw, Nat.shiftLeft_eq]

theorem toNat_lo (w : Word) : (lo w).toNat = w.toNat % 256 := by simp [lo]

theorem toNat_hi (w : Word) : (hi w).toNat = w.toNat / 256 := by
  have := w.isLt
  simp only [hi, BitVec.toNat_setWidth, BitVec.toNat_ushiftRight, Nat.shiftRight_eq_div_pow]
  omega

theorem toNat_zext (b : Byte) : (zext b).toNat = b.toNat := by
  have := b.isLt
  simp only [zext, BitVec.toNat_setWidth]
  omega

theorem toNat_wide (w : Word) : (wide w).toNat = w.toNat := by
  have := w.isLt
  simp only [wide, BitVec.toNat_setWidth]
  omega

theorem toNat_bankOf (a : Addr) : (bankOf a).toNat = a.toNat / 65536 := by
  have := a.isLt
  simp only [bankOf, BitVec.toNat_setWidth, BitVec.toNat_ushiftRight, Nat.shiftRight_eq_div_pow]
  omega

theorem toNat_offOf (a : Addr) : (offOf a).toNat = a.toNat % 65536 := by simp [offOf]

/-- The number a truncated word stands for. -/
theorem toNat_trunc (w : Width) (v : Word) : (w.trunc v).toNat = v.toNat % 2 ^ w.bits := by
  have := v.isLt
  cases w
  · simp only [Width.trunc, Width.ones, Width.bits, BitVec.toNat_and]
    exact Nat.and_two_pow_sub_one_eq_mod v.toNat 8
  · simp only [Width.trunc, Width.ones, Width.bits, BitVec.toNat_and]
    exact Nat.and_two_pow_sub_one_eq_mod v.toNat 16

/-! ### Byte views of joins, and back -/

@[simp] theorem lo_join (h l : Byte) : lo (join h l) = l :=
  BitVec.eq_of_toNat_eq (by have := l.isLt; rw [toNat_lo, toNat_join]; omega)

@[simp] theorem hi_join (h l : Byte) : hi (join h l) = h :=
  BitVec.eq_of_toNat_eq (by have := l.isLt; rw [toNat_hi, toNat_join]; omega)

@[simp] theorem join_hi_lo (w : Word) : join (hi w) (lo w) = w :=
  BitVec.eq_of_toNat_eq (by rw [toNat_join, toNat_hi, toNat_lo]; omega)

@[simp] theorem lo_zext (b : Byte) : lo (zext b) = b :=
  BitVec.eq_of_toNat_eq (by have := b.isLt; rw [toNat_lo, toNat_zext]; omega)

@[simp] theorem hi_zext (b : Byte) : hi (zext b) = 0 :=
  BitVec.eq_of_toNat_eq (by have := b.isLt; rw [toNat_hi, toNat_zext]; exact Nat.div_eq_of_lt this)

/-- A word whose high byte is 0 is its low byte, extended. -/
theorem zext_lo_of_hi (w : Word) (h : hi w = 0) : zext (lo w) = w := by
  have h0 : (hi w).toNat = 0 := by rw [h]; rfl
  rw [toNat_hi] at h0
  exact BitVec.eq_of_toNat_eq (by rw [toNat_zext, toNat_lo]; omega)

@[simp] theorem bankOf_addr (b : Byte) (w : Word) : bankOf (addr b w) = b :=
  BitVec.eq_of_toNat_eq (by have := w.isLt; rw [toNat_bankOf, toNat_addr]; omega)

@[simp] theorem offOf_addr (b : Byte) (w : Word) : offOf (addr b w) = w :=
  BitVec.eq_of_toNat_eq (by have := w.isLt; rw [toNat_offOf, toNat_addr]; omega)

@[simp] theorem addr_bankOf_offOf (a : Addr) : addr (bankOf a) (offOf a) = a :=
  BitVec.eq_of_toNat_eq (by rw [toNat_addr, toNat_bankOf, toNat_offOf]; omega)

/-! ### Widths -/

@[simp] theorem trunc_w16 (v : Word) : Width.trunc .w16 v = v :=
  BitVec.eq_of_toNat_eq (by have := v.isLt; rw [toNat_trunc]; simp only [Width.bits]; omega)

/-- At 8 bits, truncation keeps the low byte. -/
theorem trunc_w8 (v : Word) : Width.trunc .w8 v = zext (lo v) :=
  BitVec.eq_of_toNat_eq (by rw [toNat_trunc, toNat_zext, toNat_lo]; rfl)

@[simp] theorem lo_trunc (w : Width) (v : Word) : lo (w.trunc v) = lo v := by
  cases w <;> simp [trunc_w8]

@[simp] theorem hi_trunc_w8 (v : Word) : hi (Width.trunc .w8 v) = 0 := by simp [trunc_w8]

@[simp] theorem trunc_trunc (w : Width) (v : Word) : w.trunc (w.trunc v) = w.trunc v := by
  cases w <;> simp [trunc_w8]

end Sys2Proof.Machine
end

