-- ==== Sys2Proof/Laws/State.lean ====
section
/-! SUPPORT. Laws/State.lean: one lemma per field per register write, so that no later proof unfolds a record update. -/

namespace Sys2Proof.Machine

@[simp] theorem setA_a (t : State) (v : Word) : (t.setA v).a = v := rfl
@[simp] theorem setA_x (t : State) (v : Word) : (t.setA v).x = t.x := rfl
@[simp] theorem setA_y (t : State) (v : Word) : (t.setA v).y = t.y := rfl
@[simp] theorem setA_s (t : State) (v : Word) : (t.setA v).s = t.s := rfl
@[simp] theorem setA_dp (t : State) (v : Word) : (t.setA v).dp = t.dp := rfl
@[simp] theorem setA_pc (t : State) (v : Word) : (t.setA v).pc = t.pc := rfl
@[simp] theorem setA_pbr (t : State) (v : Word) : (t.setA v).pbr = t.pbr := rfl
@[simp] theorem setA_dbr (t : State) (v : Word) : (t.setA v).dbr = t.dbr := rfl
@[simp] theorem setA_p (t : State) (v : Word) : (t.setA v).p = t.p := rfl
@[simp] theorem setA_e (t : State) (v : Word) : (t.setA v).e = t.e := rfl
@[simp] theorem setA_wai (t : State) (v : Word) : (t.setA v).wai = t.wai := rfl
@[simp] theorem setA_yieldReq (t : State) (v : Word) : (t.setA v).yieldReq = t.yieldReq := rfl
@[simp] theorem setA_cycles (t : State) (v : Word) : (t.setA v).cycles = t.cycles := rfl
@[simp] theorem setA_lines (t : State) (v : Word) : (t.setA v).lines = t.lines := rfl
@[simp] theorem setA_banks (t : State) (v : Word) : (t.setA v).banks = t.banks := rfl
@[simp] theorem setA_ram (t : State) (v : Word) : (t.setA v).ram = t.ram := rfl
@[simp] theorem setA_rom (t : State) (v : Word) : (t.setA v).rom = t.rom := rfl
@[simp] theorem setA_nvb (t : State) (v : Word) : (t.setA v).nvb = t.nvb := rfl
@[simp] theorem setA_cfg (t : State) (v : Word) : (t.setA v).cfg = t.cfg := rfl
@[simp] theorem setA_host (t : State) (v : Word) : (t.setA v).host = t.host := rfl

@[simp] theorem setX_a (t : State) (v : Word) : (t.setX v).a = t.a := rfl
@[simp] theorem setX_x (t : State) (v : Word) : (t.setX v).x = v := rfl
@[simp] theorem setX_y (t : State) (v : Word) : (t.setX v).y = t.y := rfl
@[simp] theorem setX_s (t : State) (v : Word) : (t.setX v).s = t.s := rfl
@[simp] theorem setX_dp (t : State) (v : Word) : (t.setX v).dp = t.dp := rfl
@[simp] theorem setX_pc (t : State) (v : Word) : (t.setX v).pc = t.pc := rfl
@[simp] theorem setX_pbr (t : State) (v : Word) : (t.setX v).pbr = t.pbr := rfl
@[simp] theorem setX_dbr (t : State) (v : Word) : (t.setX v).dbr = t.dbr := rfl
@[simp] theorem setX_p (t : State) (v : Word) : (t.setX v).p = t.p := rfl
@[simp] theorem setX_e (t : State) (v : Word) : (t.setX v).e = t.e := rfl
@[simp] theorem setX_wai (t : State) (v : Word) : (t.setX v).wai = t.wai := rfl
@[simp] theorem setX_yieldReq (t : State) (v : Word) : (t.setX v).yieldReq = t.yieldReq := rfl
@[simp] theorem setX_cycles (t : State) (v : Word) : (t.setX v).cycles = t.cycles := rfl
@[simp] theorem setX_lines (t : State) (v : Word) : (t.setX v).lines = t.lines := rfl
@[simp] theorem setX_banks (t : State) (v : Word) : (t.setX v).banks = t.banks := rfl
@[simp] theorem setX_ram (t : State) (v : Word) : (t.setX v).ram = t.ram := rfl
@[simp] theorem setX_rom (t : State) (v : Word) : (t.setX v).rom = t.rom := rfl
@[simp] theorem setX_nvb (t : State) (v : Word) : (t.setX v).nvb = t.nvb := rfl
@[simp] theorem setX_cfg (t : State) (v : Word) : (t.setX v).cfg = t.cfg := rfl
@[simp] theorem setX_host (t : State) (v : Word) : (t.setX v).host = t.host := rfl

@[simp] theorem setY_a (t : State) (v : Word) : (t.setY v).a = t.a := rfl
@[simp] theorem setY_x (t : State) (v : Word) : (t.setY v).x = t.x := rfl
@[simp] theorem setY_y (t : State) (v : Word) : (t.setY v).y = v := rfl
@[simp] theorem setY_s (t : State) (v : Word) : (t.setY v).s = t.s := rfl
@[simp] theorem setY_dp (t : State) (v : Word) : (t.setY v).dp = t.dp := rfl
@[simp] theorem setY_pc (t : State) (v : Word) : (t.setY v).pc = t.pc := rfl
@[simp] theorem setY_pbr (t : State) (v : Word) : (t.setY v).pbr = t.pbr := rfl
@[simp] theorem setY_dbr (t : State) (v : Word) : (t.setY v).dbr = t.dbr := rfl
@[simp] theorem setY_p (t : State) (v : Word) : (t.setY v).p = t.p := rfl
@[simp] theorem setY_e (t : State) (v : Word) : (t.setY v).e = t.e := rfl
@[simp] theorem setY_wai (t : State) (v : Word) : (t.setY v).wai = t.wai := rfl
@[simp] theorem setY_yieldReq (t : State) (v : Word) : (t.setY v).yieldReq = t.yieldReq := rfl
@[simp] theorem setY_cycles (t : State) (v : Word) : (t.setY v).cycles = t.cycles := rfl
@[simp] theorem setY_lines (t : State) (v : Word) : (t.setY v).lines = t.lines := rfl
@[simp] theorem setY_banks (t : State) (v : Word) : (t.setY v).banks = t.banks := rfl
@[simp] theorem setY_ram (t : State) (v : Word) : (t.setY v).ram = t.ram := rfl
@[simp] theorem setY_rom (t : State) (v : Word) : (t.setY v).rom = t.rom := rfl
@[simp] theorem setY_nvb (t : State) (v : Word) : (t.setY v).nvb = t.nvb := rfl
@[simp] theorem setY_cfg (t : State) (v : Word) : (t.setY v).cfg = t.cfg := rfl
@[simp] theorem setY_host (t : State) (v : Word) : (t.setY v).host = t.host := rfl

@[simp] theorem setS_a (t : State) (v : Word) : (t.setS v).a = t.a := rfl
@[simp] theorem setS_x (t : State) (v : Word) : (t.setS v).x = t.x := rfl
@[simp] theorem setS_y (t : State) (v : Word) : (t.setS v).y = t.y := rfl
@[simp] theorem setS_s (t : State) (v : Word) : (t.setS v).s = v := rfl
@[simp] theorem setS_dp (t : State) (v : Word) : (t.setS v).dp = t.dp := rfl
@[simp] theorem setS_pc (t : State) (v : Word) : (t.setS v).pc = t.pc := rfl
@[simp] theorem setS_pbr (t : State) (v : Word) : (t.setS v).pbr = t.pbr := rfl
@[simp] theorem setS_dbr (t : State) (v : Word) : (t.setS v).dbr = t.dbr := rfl
@[simp] theorem setS_p (t : State) (v : Word) : (t.setS v).p = t.p := rfl
@[simp] theorem setS_e (t : State) (v : Word) : (t.setS v).e = t.e := rfl
@[simp] theorem setS_wai (t : State) (v : Word) : (t.setS v).wai = t.wai := rfl
@[simp] theorem setS_yieldReq (t : State) (v : Word) : (t.setS v).yieldReq = t.yieldReq := rfl
@[simp] theorem setS_cycles (t : State) (v : Word) : (t.setS v).cycles = t.cycles := rfl
@[simp] theorem setS_lines (t : State) (v : Word) : (t.setS v).lines = t.lines := rfl
@[simp] theorem setS_banks (t : State) (v : Word) : (t.setS v).banks = t.banks := rfl
@[simp] theorem setS_ram (t : State) (v : Word) : (t.setS v).ram = t.ram := rfl
@[simp] theorem setS_rom (t : State) (v : Word) : (t.setS v).rom = t.rom := rfl
@[simp] theorem setS_nvb (t : State) (v : Word) : (t.setS v).nvb = t.nvb := rfl
@[simp] theorem setS_cfg (t : State) (v : Word) : (t.setS v).cfg = t.cfg := rfl
@[simp] theorem setS_host (t : State) (v : Word) : (t.setS v).host = t.host := rfl

@[simp] theorem setDP_a (t : State) (v : Word) : (t.setDP v).a = t.a := rfl
@[simp] theorem setDP_x (t : State) (v : Word) : (t.setDP v).x = t.x := rfl
@[simp] theorem setDP_y (t : State) (v : Word) : (t.setDP v).y = t.y := rfl
@[simp] theorem setDP_s (t : State) (v : Word) : (t.setDP v).s = t.s := rfl
@[simp] theorem setDP_dp (t : State) (v : Word) : (t.setDP v).dp = v := rfl
@[simp] theorem setDP_pc (t : State) (v : Word) : (t.setDP v).pc = t.pc := rfl
@[simp] theorem setDP_pbr (t : State) (v : Word) : (t.setDP v).pbr = t.pbr := rfl
@[simp] theorem setDP_dbr (t : State) (v : Word) : (t.setDP v).dbr = t.dbr := rfl
@[simp] theorem setDP_p (t : State) (v : Word) : (t.setDP v).p = t.p := rfl
@[simp] theorem setDP_e (t : State) (v : Word) : (t.setDP v).e = t.e := rfl
@[simp] theorem setDP_wai (t : State) (v : Word) : (t.setDP v).wai = t.wai := rfl
@[simp] theorem setDP_yieldReq (t : State) (v : Word) : (t.setDP v).yieldReq = t.yieldReq := rfl
@[simp] theorem setDP_cycles (t : State) (v : Word) : (t.setDP v).cycles = t.cycles := rfl
@[simp] theorem setDP_lines (t : State) (v : Word) : (t.setDP v).lines = t.lines := rfl
@[simp] theorem setDP_banks (t : State) (v : Word) : (t.setDP v).banks = t.banks := rfl
@[simp] theorem setDP_ram (t : State) (v : Word) : (t.setDP v).ram = t.ram := rfl
@[simp] theorem setDP_rom (t : State) (v : Word) : (t.setDP v).rom = t.rom := rfl
@[simp] theorem setDP_nvb (t : State) (v : Word) : (t.setDP v).nvb = t.nvb := rfl
@[simp] theorem setDP_cfg (t : State) (v : Word) : (t.setDP v).cfg = t.cfg := rfl
@[simp] theorem setDP_host (t : State) (v : Word) : (t.setDP v).host = t.host := rfl

@[simp] theorem setPC_a (t : State) (v : Word) : (t.setPC v).a = t.a := rfl
@[simp] theorem setPC_x (t : State) (v : Word) : (t.setPC v).x = t.x := rfl
@[simp] theorem setPC_y (t : State) (v : Word) : (t.setPC v).y = t.y := rfl
@[simp] theorem setPC_s (t : State) (v : Word) : (t.setPC v).s = t.s := rfl
@[simp] theorem setPC_dp (t : State) (v : Word) : (t.setPC v).dp = t.dp := rfl
@[simp] theorem setPC_pc (t : State) (v : Word) : (t.setPC v).pc = v := rfl
@[simp] theorem setPC_pbr (t : State) (v : Word) : (t.setPC v).pbr = t.pbr := rfl
@[simp] theorem setPC_dbr (t : State) (v : Word) : (t.setPC v).dbr = t.dbr := rfl
@[simp] theorem setPC_p (t : State) (v : Word) : (t.setPC v).p = t.p := rfl
@[simp] theorem setPC_e (t : State) (v : Word) : (t.setPC v).e = t.e := rfl
@[simp] theorem setPC_wai (t : State) (v : Word) : (t.setPC v).wai = t.wai := rfl
@[simp] theorem setPC_yieldReq (t : State) (v : Word) : (t.setPC v).yieldReq = t.yieldReq := rfl
@[simp] theorem setPC_cycles (t : State) (v : Word) : (t.setPC v).cycles = t.cycles := rfl
@[simp] theorem setPC_lines (t : State) (v : Word) : (t.setPC v).lines = t.lines := rfl
@[simp] theorem setPC_banks (t : State) (v : Word) : (t.setPC v).banks = t.banks := rfl
@[simp] theorem setPC_ram (t : State) (v : Word) : (t.setPC v).ram = t.ram := rfl
@[simp] theorem setPC_rom (t : State) (v : Word) : (t.setPC v).rom = t.rom := rfl
@[simp] theorem setPC_nvb (t : State) (v : Word) : (t.setPC v).nvb = t.nvb := rfl
@[simp] theorem setPC_cfg (t : State) (v : Word) : (t.setPC v).cfg = t.cfg := rfl
@[simp] theorem setPC_host (t : State) (v : Word) : (t.setPC v).host = t.host := rfl

@[simp] theorem setPBR_a (t : State) (v : Byte) : (t.setPBR v).a = t.a := rfl
@[simp] theorem setPBR_x (t : State) (v : Byte) : (t.setPBR v).x = t.x := rfl
@[simp] theorem setPBR_y (t : State) (v : Byte) : (t.setPBR v).y = t.y := rfl
@[simp] theorem setPBR_s (t : State) (v : Byte) : (t.setPBR v).s = t.s := rfl
@[simp] theorem setPBR_dp (t : State) (v : Byte) : (t.setPBR v).dp = t.dp := rfl
@[simp] theorem setPBR_pc (t : State) (v : Byte) : (t.setPBR v).pc = t.pc := rfl
@[simp] theorem setPBR_pbr (t : State) (v : Byte) : (t.setPBR v).pbr = v := rfl
@[simp] theorem setPBR_dbr (t : State) (v : Byte) : (t.setPBR v).dbr = t.dbr := rfl
@[simp] theorem setPBR_p (t : State) (v : Byte) : (t.setPBR v).p = t.p := rfl
@[simp] theorem setPBR_e (t : State) (v : Byte) : (t.setPBR v).e = t.e := rfl
@[simp] theorem setPBR_wai (t : State) (v : Byte) : (t.setPBR v).wai = t.wai := rfl
@[simp] theorem setPBR_yieldReq (t : State) (v : Byte) : (t.setPBR v).yieldReq = t.yieldReq := rfl
@[simp] theorem setPBR_cycles (t : State) (v : Byte) : (t.setPBR v).cycles = t.cycles := rfl
@[simp] theorem setPBR_lines (t : State) (v : Byte) : (t.setPBR v).lines = t.lines := rfl
@[simp] theorem setPBR_banks (t : State) (v : Byte) : (t.setPBR v).banks = t.banks := rfl
@[simp] theorem setPBR_ram (t : State) (v : Byte) : (t.setPBR v).ram = t.ram := rfl
@[simp] theorem setPBR_rom (t : State) (v : Byte) : (t.setPBR v).rom = t.rom := rfl
@[simp] theorem setPBR_nvb (t : State) (v : Byte) : (t.setPBR v).nvb = t.nvb := rfl
@[simp] theorem setPBR_cfg (t : State) (v : Byte) : (t.setPBR v).cfg = t.cfg := rfl
@[simp] theorem setPBR_host (t : State) (v : Byte) : (t.setPBR v).host = t.host := rfl

@[simp] theorem setDBR_a (t : State) (v : Byte) : (t.setDBR v).a = t.a := rfl
@[simp] theorem setDBR_x (t : State) (v : Byte) : (t.setDBR v).x = t.x := rfl
@[simp] theorem setDBR_y (t : State) (v : Byte) : (t.setDBR v).y = t.y := rfl
@[simp] theorem setDBR_s (t : State) (v : Byte) : (t.setDBR v).s = t.s := rfl
@[simp] theorem setDBR_dp (t : State) (v : Byte) : (t.setDBR v).dp = t.dp := rfl
@[simp] theorem setDBR_pc (t : State) (v : Byte) : (t.setDBR v).pc = t.pc := rfl
@[simp] theorem setDBR_pbr (t : State) (v : Byte) : (t.setDBR v).pbr = t.pbr := rfl
@[simp] theorem setDBR_dbr (t : State) (v : Byte) : (t.setDBR v).dbr = v := rfl
@[simp] theorem setDBR_p (t : State) (v : Byte) : (t.setDBR v).p = t.p := rfl
@[simp] theorem setDBR_e (t : State) (v : Byte) : (t.setDBR v).e = t.e := rfl
@[simp] theorem setDBR_wai (t : State) (v : Byte) : (t.setDBR v).wai = t.wai := rfl
@[simp] theorem setDBR_yieldReq (t : State) (v : Byte) : (t.setDBR v).yieldReq = t.yieldReq := rfl
@[simp] theorem setDBR_cycles (t : State) (v : Byte) : (t.setDBR v).cycles = t.cycles := rfl
@[simp] theorem setDBR_lines (t : State) (v : Byte) : (t.setDBR v).lines = t.lines := rfl
@[simp] theorem setDBR_banks (t : State) (v : Byte) : (t.setDBR v).banks = t.banks := rfl
@[simp] theorem setDBR_ram (t : State) (v : Byte) : (t.setDBR v).ram = t.ram := rfl
@[simp] theorem setDBR_rom (t : State) (v : Byte) : (t.setDBR v).rom = t.rom := rfl
@[simp] theorem setDBR_nvb (t : State) (v : Byte) : (t.setDBR v).nvb = t.nvb := rfl
@[simp] theorem setDBR_cfg (t : State) (v : Byte) : (t.setDBR v).cfg = t.cfg := rfl
@[simp] theorem setDBR_host (t : State) (v : Byte) : (t.setDBR v).host = t.host := rfl

@[simp] theorem setP_a (t : State) (v : Flags) : (t.setP v).a = t.a := rfl
@[simp] theorem setP_x (t : State) (v : Flags) : (t.setP v).x = t.x := rfl
@[simp] theorem setP_y (t : State) (v : Flags) : (t.setP v).y = t.y := rfl
@[simp] theorem setP_s (t : State) (v : Flags) : (t.setP v).s = t.s := rfl
@[simp] theorem setP_dp (t : State) (v : Flags) : (t.setP v).dp = t.dp := rfl
@[simp] theorem setP_pc (t : State) (v : Flags) : (t.setP v).pc = t.pc := rfl
@[simp] theorem setP_pbr (t : State) (v : Flags) : (t.setP v).pbr = t.pbr := rfl
@[simp] theorem setP_dbr (t : State) (v : Flags) : (t.setP v).dbr = t.dbr := rfl
@[simp] theorem setP_p (t : State) (v : Flags) : (t.setP v).p = v := rfl
@[simp] theorem setP_e (t : State) (v : Flags) : (t.setP v).e = t.e := rfl
@[simp] theorem setP_wai (t : State) (v : Flags) : (t.setP v).wai = t.wai := rfl
@[simp] theorem setP_yieldReq (t : State) (v : Flags) : (t.setP v).yieldReq = t.yieldReq := rfl
@[simp] theorem setP_cycles (t : State) (v : Flags) : (t.setP v).cycles = t.cycles := rfl
@[simp] theorem setP_lines (t : State) (v : Flags) : (t.setP v).lines = t.lines := rfl
@[simp] theorem setP_banks (t : State) (v : Flags) : (t.setP v).banks = t.banks := rfl
@[simp] theorem setP_ram (t : State) (v : Flags) : (t.setP v).ram = t.ram := rfl
@[simp] theorem setP_rom (t : State) (v : Flags) : (t.setP v).rom = t.rom := rfl
@[simp] theorem setP_nvb (t : State) (v : Flags) : (t.setP v).nvb = t.nvb := rfl
@[simp] theorem setP_cfg (t : State) (v : Flags) : (t.setP v).cfg = t.cfg := rfl
@[simp] theorem setP_host (t : State) (v : Flags) : (t.setP v).host = t.host := rfl

@[simp] theorem setE_a (t : State) (v : Bool) : (t.setE v).a = t.a := rfl
@[simp] theorem setE_x (t : State) (v : Bool) : (t.setE v).x = t.x := rfl
@[simp] theorem setE_y (t : State) (v : Bool) : (t.setE v).y = t.y := rfl
@[simp] theorem setE_s (t : State) (v : Bool) : (t.setE v).s = t.s := rfl
@[simp] theorem setE_dp (t : State) (v : Bool) : (t.setE v).dp = t.dp := rfl
@[simp] theorem setE_pc (t : State) (v : Bool) : (t.setE v).pc = t.pc := rfl
@[simp] theorem setE_pbr (t : State) (v : Bool) : (t.setE v).pbr = t.pbr := rfl
@[simp] theorem setE_dbr (t : State) (v : Bool) : (t.setE v).dbr = t.dbr := rfl
@[simp] theorem setE_p (t : State) (v : Bool) : (t.setE v).p = t.p := rfl
@[simp] theorem setE_e (t : State) (v : Bool) : (t.setE v).e = v := rfl
@[simp] theorem setE_wai (t : State) (v : Bool) : (t.setE v).wai = t.wai := rfl
@[simp] theorem setE_yieldReq (t : State) (v : Bool) : (t.setE v).yieldReq = t.yieldReq := rfl
@[simp] theorem setE_cycles (t : State) (v : Bool) : (t.setE v).cycles = t.cycles := rfl
@[simp] theorem setE_lines (t : State) (v : Bool) : (t.setE v).lines = t.lines := rfl
@[simp] theorem setE_banks (t : State) (v : Bool) : (t.setE v).banks = t.banks := rfl
@[simp] theorem setE_ram (t : State) (v : Bool) : (t.setE v).ram = t.ram := rfl
@[simp] theorem setE_rom (t : State) (v : Bool) : (t.setE v).rom = t.rom := rfl
@[simp] theorem setE_nvb (t : State) (v : Bool) : (t.setE v).nvb = t.nvb := rfl
@[simp] theorem setE_cfg (t : State) (v : Bool) : (t.setE v).cfg = t.cfg := rfl
@[simp] theorem setE_host (t : State) (v : Bool) : (t.setE v).host = t.host := rfl

@[simp] theorem setWai_a (t : State) (v : Bool) : (t.setWai v).a = t.a := rfl
@[simp] theorem setWai_x (t : State) (v : Bool) : (t.setWai v).x = t.x := rfl
@[simp] theorem setWai_y (t : State) (v : Bool) : (t.setWai v).y = t.y := rfl
@[simp] theorem setWai_s (t : State) (v : Bool) : (t.setWai v).s = t.s := rfl
@[simp] theorem setWai_dp (t : State) (v : Bool) : (t.setWai v).dp = t.dp := rfl
@[simp] theorem setWai_pc (t : State) (v : Bool) : (t.setWai v).pc = t.pc := rfl
@[simp] theorem setWai_pbr (t : State) (v : Bool) : (t.setWai v).pbr = t.pbr := rfl
@[simp] theorem setWai_dbr (t : State) (v : Bool) : (t.setWai v).dbr = t.dbr := rfl
@[simp] theorem setWai_p (t : State) (v : Bool) : (t.setWai v).p = t.p := rfl
@[simp] theorem setWai_e (t : State) (v : Bool) : (t.setWai v).e = t.e := rfl
@[simp] theorem setWai_wai (t : State) (v : Bool) : (t.setWai v).wai = v := rfl
@[simp] theorem setWai_yieldReq (t : State) (v : Bool) : (t.setWai v).yieldReq = t.yieldReq := rfl
@[simp] theorem setWai_cycles (t : State) (v : Bool) : (t.setWai v).cycles = t.cycles := rfl
@[simp] theorem setWai_lines (t : State) (v : Bool) : (t.setWai v).lines = t.lines := rfl
@[simp] theorem setWai_banks (t : State) (v : Bool) : (t.setWai v).banks = t.banks := rfl
@[simp] theorem setWai_ram (t : State) (v : Bool) : (t.setWai v).ram = t.ram := rfl
@[simp] theorem setWai_rom (t : State) (v : Bool) : (t.setWai v).rom = t.rom := rfl
@[simp] theorem setWai_nvb (t : State) (v : Bool) : (t.setWai v).nvb = t.nvb := rfl
@[simp] theorem setWai_cfg (t : State) (v : Bool) : (t.setWai v).cfg = t.cfg := rfl
@[simp] theorem setWai_host (t : State) (v : Bool) : (t.setWai v).host = t.host := rfl

@[simp] theorem setYieldReq_a (t : State) (v : Bool) : (t.setYieldReq v).a = t.a := rfl
@[simp] theorem setYieldReq_x (t : State) (v : Bool) : (t.setYieldReq v).x = t.x := rfl
@[simp] theorem setYieldReq_y (t : State) (v : Bool) : (t.setYieldReq v).y = t.y := rfl
@[simp] theorem setYieldReq_s (t : State) (v : Bool) : (t.setYieldReq v).s = t.s := rfl
@[simp] theorem setYieldReq_dp (t : State) (v : Bool) : (t.setYieldReq v).dp = t.dp := rfl
@[simp] theorem setYieldReq_pc (t : State) (v : Bool) : (t.setYieldReq v).pc = t.pc := rfl
@[simp] theorem setYieldReq_pbr (t : State) (v : Bool) : (t.setYieldReq v).pbr = t.pbr := rfl
@[simp] theorem setYieldReq_dbr (t : State) (v : Bool) : (t.setYieldReq v).dbr = t.dbr := rfl
@[simp] theorem setYieldReq_p (t : State) (v : Bool) : (t.setYieldReq v).p = t.p := rfl
@[simp] theorem setYieldReq_e (t : State) (v : Bool) : (t.setYieldReq v).e = t.e := rfl
@[simp] theorem setYieldReq_wai (t : State) (v : Bool) : (t.setYieldReq v).wai = t.wai := rfl
@[simp] theorem setYieldReq_yieldReq (t : State) (v : Bool) : (t.setYieldReq v).yieldReq = v := rfl
@[simp] theorem setYieldReq_cycles (t : State) (v : Bool) : (t.setYieldReq v).cycles = t.cycles := rfl
@[simp] theorem setYieldReq_lines (t : State) (v : Bool) : (t.setYieldReq v).lines = t.lines := rfl
@[simp] theorem setYieldReq_banks (t : State) (v : Bool) : (t.setYieldReq v).banks = t.banks := rfl
@[simp] theorem setYieldReq_ram (t : State) (v : Bool) : (t.setYieldReq v).ram = t.ram := rfl
@[simp] theorem setYieldReq_rom (t : State) (v : Bool) : (t.setYieldReq v).rom = t.rom := rfl
@[simp] theorem setYieldReq_nvb (t : State) (v : Bool) : (t.setYieldReq v).nvb = t.nvb := rfl
@[simp] theorem setYieldReq_cfg (t : State) (v : Bool) : (t.setYieldReq v).cfg = t.cfg := rfl
@[simp] theorem setYieldReq_host (t : State) (v : Bool) : (t.setYieldReq v).host = t.host := rfl

@[simp] theorem setCycles_a (t : State) (v : Int) : (t.setCycles v).a = t.a := rfl
@[simp] theorem setCycles_x (t : State) (v : Int) : (t.setCycles v).x = t.x := rfl
@[simp] theorem setCycles_y (t : State) (v : Int) : (t.setCycles v).y = t.y := rfl
@[simp] theorem setCycles_s (t : State) (v : Int) : (t.setCycles v).s = t.s := rfl
@[simp] theorem setCycles_dp (t : State) (v : Int) : (t.setCycles v).dp = t.dp := rfl
@[simp] theorem setCycles_pc (t : State) (v : Int) : (t.setCycles v).pc = t.pc := rfl
@[simp] theorem setCycles_pbr (t : State) (v : Int) : (t.setCycles v).pbr = t.pbr := rfl
@[simp] theorem setCycles_dbr (t : State) (v : Int) : (t.setCycles v).dbr = t.dbr := rfl
@[simp] theorem setCycles_p (t : State) (v : Int) : (t.setCycles v).p = t.p := rfl
@[simp] theorem setCycles_e (t : State) (v : Int) : (t.setCycles v).e = t.e := rfl
@[simp] theorem setCycles_wai (t : State) (v : Int) : (t.setCycles v).wai = t.wai := rfl
@[simp] theorem setCycles_yieldReq (t : State) (v : Int) : (t.setCycles v).yieldReq = t.yieldReq := rfl
@[simp] theorem setCycles_cycles (t : State) (v : Int) : (t.setCycles v).cycles = v := rfl
@[simp] theorem setCycles_lines (t : State) (v : Int) : (t.setCycles v).lines = t.lines := rfl
@[simp] theorem setCycles_banks (t : State) (v : Int) : (t.setCycles v).banks = t.banks := rfl
@[simp] theorem setCycles_ram (t : State) (v : Int) : (t.setCycles v).ram = t.ram := rfl
@[simp] theorem setCycles_rom (t : State) (v : Int) : (t.setCycles v).rom = t.rom := rfl
@[simp] theorem setCycles_nvb (t : State) (v : Int) : (t.setCycles v).nvb = t.nvb := rfl
@[simp] theorem setCycles_cfg (t : State) (v : Int) : (t.setCycles v).cfg = t.cfg := rfl
@[simp] theorem setCycles_host (t : State) (v : Int) : (t.setCycles v).host = t.host := rfl

@[simp] theorem setLines_a (t : State) (v : Lines) : (t.setLines v).a = t.a := rfl
@[simp] theorem setLines_x (t : State) (v : Lines) : (t.setLines v).x = t.x := rfl
@[simp] theorem setLines_y (t : State) (v : Lines) : (t.setLines v).y = t.y := rfl
@[simp] theorem setLines_s (t : State) (v : Lines) : (t.setLines v).s = t.s := rfl
@[simp] theorem setLines_dp (t : State) (v : Lines) : (t.setLines v).dp = t.dp := rfl
@[simp] theorem setLines_pc (t : State) (v : Lines) : (t.setLines v).pc = t.pc := rfl
@[simp] theorem setLines_pbr (t : State) (v : Lines) : (t.setLines v).pbr = t.pbr := rfl
@[simp] theorem setLines_dbr (t : State) (v : Lines) : (t.setLines v).dbr = t.dbr := rfl
@[simp] theorem setLines_p (t : State) (v : Lines) : (t.setLines v).p = t.p := rfl
@[simp] theorem setLines_e (t : State) (v : Lines) : (t.setLines v).e = t.e := rfl
@[simp] theorem setLines_wai (t : State) (v : Lines) : (t.setLines v).wai = t.wai := rfl
@[simp] theorem setLines_yieldReq (t : State) (v : Lines) : (t.setLines v).yieldReq = t.yieldReq := rfl
@[simp] theorem setLines_cycles (t : State) (v : Lines) : (t.setLines v).cycles = t.cycles := rfl
@[simp] theorem setLines_lines (t : State) (v : Lines) : (t.setLines v).lines = v := rfl
@[simp] theorem setLines_banks (t : State) (v : Lines) : (t.setLines v).banks = t.banks := rfl
@[simp] theorem setLines_ram (t : State) (v : Lines) : (t.setLines v).ram = t.ram := rfl
@[simp] theorem setLines_rom (t : State) (v : Lines) : (t.setLines v).rom = t.rom := rfl
@[simp] theorem setLines_nvb (t : State) (v : Lines) : (t.setLines v).nvb = t.nvb := rfl
@[simp] theorem setLines_cfg (t : State) (v : Lines) : (t.setLines v).cfg = t.cfg := rfl
@[simp] theorem setLines_host (t : State) (v : Lines) : (t.setLines v).host = t.host := rfl

@[simp] theorem setBanks_a (t : State) (v : Latches) : (t.setBanks v).a = t.a := rfl
@[simp] theorem setBanks_x (t : State) (v : Latches) : (t.setBanks v).x = t.x := rfl
@[simp] theorem setBanks_y (t : State) (v : Latches) : (t.setBanks v).y = t.y := rfl
@[simp] theorem setBanks_s (t : State) (v : Latches) : (t.setBanks v).s = t.s := rfl
@[simp] theorem setBanks_dp (t : State) (v : Latches) : (t.setBanks v).dp = t.dp := rfl
@[simp] theorem setBanks_pc (t : State) (v : Latches) : (t.setBanks v).pc = t.pc := rfl
@[simp] theorem setBanks_pbr (t : State) (v : Latches) : (t.setBanks v).pbr = t.pbr := rfl
@[simp] theorem setBanks_dbr (t : State) (v : Latches) : (t.setBanks v).dbr = t.dbr := rfl
@[simp] theorem setBanks_p (t : State) (v : Latches) : (t.setBanks v).p = t.p := rfl
@[simp] theorem setBanks_e (t : State) (v : Latches) : (t.setBanks v).e = t.e := rfl
@[simp] theorem setBanks_wai (t : State) (v : Latches) : (t.setBanks v).wai = t.wai := rfl
@[simp] theorem setBanks_yieldReq (t : State) (v : Latches) : (t.setBanks v).yieldReq = t.yieldReq := rfl
@[simp] theorem setBanks_cycles (t : State) (v : Latches) : (t.setBanks v).cycles = t.cycles := rfl
@[simp] theorem setBanks_lines (t : State) (v : Latches) : (t.setBanks v).lines = t.lines := rfl
@[simp] theorem setBanks_banks (t : State) (v : Latches) : (t.setBanks v).banks = v := rfl
@[simp] theorem setBanks_ram (t : State) (v : Latches) : (t.setBanks v).ram = t.ram := rfl
@[simp] theorem setBanks_rom (t : State) (v : Latches) : (t.setBanks v).rom = t.rom := rfl
@[simp] theorem setBanks_nvb (t : State) (v : Latches) : (t.setBanks v).nvb = t.nvb := rfl
@[simp] theorem setBanks_cfg (t : State) (v : Latches) : (t.setBanks v).cfg = t.cfg := rfl
@[simp] theorem setBanks_host (t : State) (v : Latches) : (t.setBanks v).host = t.host := rfl

@[simp] theorem setRam_a (t : State) (v : Memory) : (t.setRam v).a = t.a := rfl
@[simp] theorem setRam_x (t : State) (v : Memory) : (t.setRam v).x = t.x := rfl
@[simp] theorem setRam_y (t : State) (v : Memory) : (t.setRam v).y = t.y := rfl
@[simp] theorem setRam_s (t : State) (v : Memory) : (t.setRam v).s = t.s := rfl
@[simp] theorem setRam_dp (t : State) (v : Memory) : (t.setRam v).dp = t.dp := rfl
@[simp] theorem setRam_pc (t : State) (v : Memory) : (t.setRam v).pc = t.pc := rfl
@[simp] theorem setRam_pbr (t : State) (v : Memory) : (t.setRam v).pbr = t.pbr := rfl
@[simp] theorem setRam_dbr (t : State) (v : Memory) : (t.setRam v).dbr = t.dbr := rfl
@[simp] theorem setRam_p (t : State) (v : Memory) : (t.setRam v).p = t.p := rfl
@[simp] theorem setRam_e (t : State) (v : Memory) : (t.setRam v).e = t.e := rfl
@[simp] theorem setRam_wai (t : State) (v : Memory) : (t.setRam v).wai = t.wai := rfl
@[simp] theorem setRam_yieldReq (t : State) (v : Memory) : (t.setRam v).yieldReq = t.yieldReq := rfl
@[simp] theorem setRam_cycles (t : State) (v : Memory) : (t.setRam v).cycles = t.cycles := rfl
@[simp] theorem setRam_lines (t : State) (v : Memory) : (t.setRam v).lines = t.lines := rfl
@[simp] theorem setRam_banks (t : State) (v : Memory) : (t.setRam v).banks = t.banks := rfl
@[simp] theorem setRam_ram (t : State) (v : Memory) : (t.setRam v).ram = v := rfl
@[simp] theorem setRam_rom (t : State) (v : Memory) : (t.setRam v).rom = t.rom := rfl
@[simp] theorem setRam_nvb (t : State) (v : Memory) : (t.setRam v).nvb = t.nvb := rfl
@[simp] theorem setRam_cfg (t : State) (v : Memory) : (t.setRam v).cfg = t.cfg := rfl
@[simp] theorem setRam_host (t : State) (v : Memory) : (t.setRam v).host = t.host := rfl

@[simp] theorem setRom_a (t : State) (v : Memory) : (t.setRom v).a = t.a := rfl
@[simp] theorem setRom_x (t : State) (v : Memory) : (t.setRom v).x = t.x := rfl
@[simp] theorem setRom_y (t : State) (v : Memory) : (t.setRom v).y = t.y := rfl
@[simp] theorem setRom_s (t : State) (v : Memory) : (t.setRom v).s = t.s := rfl
@[simp] theorem setRom_dp (t : State) (v : Memory) : (t.setRom v).dp = t.dp := rfl
@[simp] theorem setRom_pc (t : State) (v : Memory) : (t.setRom v).pc = t.pc := rfl
@[simp] theorem setRom_pbr (t : State) (v : Memory) : (t.setRom v).pbr = t.pbr := rfl
@[simp] theorem setRom_dbr (t : State) (v : Memory) : (t.setRom v).dbr = t.dbr := rfl
@[simp] theorem setRom_p (t : State) (v : Memory) : (t.setRom v).p = t.p := rfl
@[simp] theorem setRom_e (t : State) (v : Memory) : (t.setRom v).e = t.e := rfl
@[simp] theorem setRom_wai (t : State) (v : Memory) : (t.setRom v).wai = t.wai := rfl
@[simp] theorem setRom_yieldReq (t : State) (v : Memory) : (t.setRom v).yieldReq = t.yieldReq := rfl
@[simp] theorem setRom_cycles (t : State) (v : Memory) : (t.setRom v).cycles = t.cycles := rfl
@[simp] theorem setRom_lines (t : State) (v : Memory) : (t.setRom v).lines = t.lines := rfl
@[simp] theorem setRom_banks (t : State) (v : Memory) : (t.setRom v).banks = t.banks := rfl
@[simp] theorem setRom_ram (t : State) (v : Memory) : (t.setRom v).ram = t.ram := rfl
@[simp] theorem setRom_rom (t : State) (v : Memory) : (t.setRom v).rom = v := rfl
@[simp] theorem setRom_nvb (t : State) (v : Memory) : (t.setRom v).nvb = t.nvb := rfl
@[simp] theorem setRom_cfg (t : State) (v : Memory) : (t.setRom v).cfg = t.cfg := rfl
@[simp] theorem setRom_host (t : State) (v : Memory) : (t.setRom v).host = t.host := rfl

@[simp] theorem setNvb_a (t : State) (v : Byte) : (t.setNvb v).a = t.a := rfl
@[simp] theorem setNvb_x (t : State) (v : Byte) : (t.setNvb v).x = t.x := rfl
@[simp] theorem setNvb_y (t : State) (v : Byte) : (t.setNvb v).y = t.y := rfl
@[simp] theorem setNvb_s (t : State) (v : Byte) : (t.setNvb v).s = t.s := rfl
@[simp] theorem setNvb_dp (t : State) (v : Byte) : (t.setNvb v).dp = t.dp := rfl
@[simp] theorem setNvb_pc (t : State) (v : Byte) : (t.setNvb v).pc = t.pc := rfl
@[simp] theorem setNvb_pbr (t : State) (v : Byte) : (t.setNvb v).pbr = t.pbr := rfl
@[simp] theorem setNvb_dbr (t : State) (v : Byte) : (t.setNvb v).dbr = t.dbr := rfl
@[simp] theorem setNvb_p (t : State) (v : Byte) : (t.setNvb v).p = t.p := rfl
@[simp] theorem setNvb_e (t : State) (v : Byte) : (t.setNvb v).e = t.e := rfl
@[simp] theorem setNvb_wai (t : State) (v : Byte) : (t.setNvb v).wai = t.wai := rfl
@[simp] theorem setNvb_yieldReq (t : State) (v : Byte) : (t.setNvb v).yieldReq = t.yieldReq := rfl
@[simp] theorem setNvb_cycles (t : State) (v : Byte) : (t.setNvb v).cycles = t.cycles := rfl
@[simp] theorem setNvb_lines (t : State) (v : Byte) : (t.setNvb v).lines = t.lines := rfl
@[simp] theorem setNvb_banks (t : State) (v : Byte) : (t.setNvb v).banks = t.banks := rfl
@[simp] theorem setNvb_ram (t : State) (v : Byte) : (t.setNvb v).ram = t.ram := rfl
@[simp] theorem setNvb_rom (t : State) (v : Byte) : (t.setNvb v).rom = t.rom := rfl
@[simp] theorem setNvb_nvb (t : State) (v : Byte) : (t.setNvb v).nvb = v := rfl
@[simp] theorem setNvb_cfg (t : State) (v : Byte) : (t.setNvb v).cfg = t.cfg := rfl
@[simp] theorem setNvb_host (t : State) (v : Byte) : (t.setNvb v).host = t.host := rfl

@[simp] theorem setHost_a (t : State) (v : HostSide) : (t.setHost v).a = t.a := rfl
@[simp] theorem setHost_x (t : State) (v : HostSide) : (t.setHost v).x = t.x := rfl
@[simp] theorem setHost_y (t : State) (v : HostSide) : (t.setHost v).y = t.y := rfl
@[simp] theorem setHost_s (t : State) (v : HostSide) : (t.setHost v).s = t.s := rfl
@[simp] theorem setHost_dp (t : State) (v : HostSide) : (t.setHost v).dp = t.dp := rfl
@[simp] theorem setHost_pc (t : State) (v : HostSide) : (t.setHost v).pc = t.pc := rfl
@[simp] theorem setHost_pbr (t : State) (v : HostSide) : (t.setHost v).pbr = t.pbr := rfl
@[simp] theorem setHost_dbr (t : State) (v : HostSide) : (t.setHost v).dbr = t.dbr := rfl
@[simp] theorem setHost_p (t : State) (v : HostSide) : (t.setHost v).p = t.p := rfl
@[simp] theorem setHost_e (t : State) (v : HostSide) : (t.setHost v).e = t.e := rfl
@[simp] theorem setHost_wai (t : State) (v : HostSide) : (t.setHost v).wai = t.wai := rfl
@[simp] theorem setHost_yieldReq (t : State) (v : HostSide) : (t.setHost v).yieldReq = t.yieldReq := rfl
@[simp] theorem setHost_cycles (t : State) (v : HostSide) : (t.setHost v).cycles = t.cycles := rfl
@[simp] theorem setHost_lines (t : State) (v : HostSide) : (t.setHost v).lines = t.lines := rfl
@[simp] theorem setHost_banks (t : State) (v : HostSide) : (t.setHost v).banks = t.banks := rfl
@[simp] theorem setHost_ram (t : State) (v : HostSide) : (t.setHost v).ram = t.ram := rfl
@[simp] theorem setHost_rom (t : State) (v : HostSide) : (t.setHost v).rom = t.rom := rfl
@[simp] theorem setHost_nvb (t : State) (v : HostSide) : (t.setHost v).nvb = t.nvb := rfl
@[simp] theorem setHost_cfg (t : State) (v : HostSide) : (t.setHost v).cfg = t.cfg := rfl
@[simp] theorem setHost_host (t : State) (v : HostSide) : (t.setHost v).host = v := rfl

/-! ### Widths and mask depend on e, P and def alone -/

@[simp] theorem setA_m8 (t : State) (v : Word) : (t.setA v).m8 = t.m8 := rfl
@[simp] theorem setA_x8 (t : State) (v : Word) : (t.setA v).x8 = t.x8 := rfl
@[simp] theorem setA_wM (t : State) (v : Word) : (t.setA v).wM = t.wM := rfl
@[simp] theorem setA_wX (t : State) (v : Word) : (t.setA v).wX = t.wX := rfl
@[simp] theorem setA_mask (t : State) (v : Word) : (t.setA v).mask = t.mask := rfl
@[simp] theorem setX_m8 (t : State) (v : Word) : (t.setX v).m8 = t.m8 := rfl
@[simp] theorem setX_x8 (t : State) (v : Word) : (t.setX v).x8 = t.x8 := rfl
@[simp] theorem setX_wM (t : State) (v : Word) : (t.setX v).wM = t.wM := rfl
@[simp] theorem setX_wX (t : State) (v : Word) : (t.setX v).wX = t.wX := rfl
@[simp] theorem setX_mask (t : State) (v : Word) : (t.setX v).mask = t.mask := rfl
@[simp] theorem setY_m8 (t : State) (v : Word) : (t.setY v).m8 = t.m8 := rfl
@[simp] theorem setY_x8 (t : State) (v : Word) : (t.setY v).x8 = t.x8 := rfl
@[simp] theorem setY_wM (t : State) (v : Word) : (t.setY v).wM = t.wM := rfl
@[simp] theorem setY_wX (t : State) (v : Word) : (t.setY v).wX = t.wX := rfl
@[simp] theorem setY_mask (t : State) (v : Word) : (t.setY v).mask = t.mask := rfl
@[simp] theorem setS_m8 (t : State) (v : Word) : (t.setS v).m8 = t.m8 := rfl
@[simp] theorem setS_x8 (t : State) (v : Word) : (t.setS v).x8 = t.x8 := rfl
@[simp] theorem setS_wM (t : State) (v : Word) : (t.setS v).wM = t.wM := rfl
@[simp] theorem setS_wX (t : State) (v : Word) : (t.setS v).wX = t.wX := rfl
@[simp] theorem setS_mask (t : State) (v : Word) : (t.setS v).mask = t.mask := rfl
@[simp] theorem setDP_m8 (t : State) (v : Word) : (t.setDP v).m8 = t.m8 := rfl
@[simp] theorem setDP_x8 (t : State) (v : Word) : (t.setDP v).x8 = t.x8 := rfl
@[simp] theorem setDP_wM (t : State) (v : Word) : (t.setDP v).wM = t.wM := rfl
@[simp] theorem setDP_wX (t : State) (v : Word) : (t.setDP v).wX = t.wX := rfl
@[simp] theorem setDP_mask (t : State) (v : Word) : (t.setDP v).mask = t.mask := rfl
@[simp] theorem setPC_m8 (t : State) (v : Word) : (t.setPC v).m8 = t.m8 := rfl
@[simp] theorem setPC_x8 (t : State) (v : Word) : (t.setPC v).x8 = t.x8 := rfl
@[simp] theorem setPC_wM (t : State) (v : Word) : (t.setPC v).wM = t.wM := rfl
@[simp] theorem setPC_wX (t : State) (v : Word) : (t.setPC v).wX = t.wX := rfl
@[simp] theorem setPC_mask (t : State) (v : Word) : (t.setPC v).mask = t.mask := rfl
@[simp] theorem setPBR_m8 (t : State) (v : Byte) : (t.setPBR v).m8 = t.m8 := rfl
@[simp] theorem setPBR_x8 (t : State) (v : Byte) : (t.setPBR v).x8 = t.x8 := rfl
@[simp] theorem setPBR_wM (t : State) (v : Byte) : (t.setPBR v).wM = t.wM := rfl
@[simp] theorem setPBR_wX (t : State) (v : Byte) : (t.setPBR v).wX = t.wX := rfl
@[simp] theorem setPBR_mask (t : State) (v : Byte) : (t.setPBR v).mask = t.mask := rfl
@[simp] theorem setDBR_m8 (t : State) (v : Byte) : (t.setDBR v).m8 = t.m8 := rfl
@[simp] theorem setDBR_x8 (t : State) (v : Byte) : (t.setDBR v).x8 = t.x8 := rfl
@[simp] theorem setDBR_wM (t : State) (v : Byte) : (t.setDBR v).wM = t.wM := rfl
@[simp] theorem setDBR_wX (t : State) (v : Byte) : (t.setDBR v).wX = t.wX := rfl
@[simp] theorem setDBR_mask (t : State) (v : Byte) : (t.setDBR v).mask = t.mask := rfl
@[simp] theorem setP_mask (t : State) (v : Flags) : (t.setP v).mask = t.mask := rfl
@[simp] theorem setE_mask (t : State) (v : Bool) : (t.setE v).mask = t.mask := rfl
@[simp] theorem setWai_m8 (t : State) (v : Bool) : (t.setWai v).m8 = t.m8 := rfl
@[simp] theorem setWai_x8 (t : State) (v : Bool) : (t.setWai v).x8 = t.x8 := rfl
@[simp] theorem setWai_wM (t : State) (v : Bool) : (t.setWai v).wM = t.wM := rfl
@[simp] theorem setWai_wX (t : State) (v : Bool) : (t.setWai v).wX = t.wX := rfl
@[simp] theorem setWai_mask (t : State) (v : Bool) : (t.setWai v).mask = t.mask := rfl
@[simp] theorem setYieldReq_m8 (t : State) (v : Bool) : (t.setYieldReq v).m8 = t.m8 := rfl
@[simp] theorem setYieldReq_x8 (t : State) (v : Bool) : (t.setYieldReq v).x8 = t.x8 := rfl
@[simp] theorem setYieldReq_wM (t : State) (v : Bool) : (t.setYieldReq v).wM = t.wM := rfl
@[simp] theorem setYieldReq_wX (t : State) (v : Bool) : (t.setYieldReq v).wX = t.wX := rfl
@[simp] theorem setYieldReq_mask (t : State) (v : Bool) : (t.setYieldReq v).mask = t.mask := rfl
@[simp] theorem setCycles_m8 (t : State) (v : Int) : (t.setCycles v).m8 = t.m8 := rfl
@[simp] theorem setCycles_x8 (t : State) (v : Int) : (t.setCycles v).x8 = t.x8 := rfl
@[simp] theorem setCycles_wM (t : State) (v : Int) : (t.setCycles v).wM = t.wM := rfl
@[simp] theorem setCycles_wX (t : State) (v : Int) : (t.setCycles v).wX = t.wX := rfl
@[simp] theorem setCycles_mask (t : State) (v : Int) : (t.setCycles v).mask = t.mask := rfl
@[simp] theorem setLines_m8 (t : State) (v : Lines) : (t.setLines v).m8 = t.m8 := rfl
@[simp] theorem setLines_x8 (t : State) (v : Lines) : (t.setLines v).x8 = t.x8 := rfl
@[simp] theorem setLines_wM (t : State) (v : Lines) : (t.setLines v).wM = t.wM := rfl
@[simp] theorem setLines_wX (t : State) (v : Lines) : (t.setLines v).wX = t.wX := rfl
@[simp] theorem setLines_mask (t : State) (v : Lines) : (t.setLines v).mask = t.mask := rfl
@[simp] theorem setBanks_m8 (t : State) (v : Latches) : (t.setBanks v).m8 = t.m8 := rfl
@[simp] theorem setBanks_x8 (t : State) (v : Latches) : (t.setBanks v).x8 = t.x8 := rfl
@[simp] theorem setBanks_wM (t : State) (v : Latches) : (t.setBanks v).wM = t.wM := rfl
@[simp] theorem setBanks_wX (t : State) (v : Latches) : (t.setBanks v).wX = t.wX := rfl
@[simp] theorem setRam_m8 (t : State) (v : Memory) : (t.setRam v).m8 = t.m8 := rfl
@[simp] theorem setRam_x8 (t : State) (v : Memory) : (t.setRam v).x8 = t.x8 := rfl
@[simp] theorem setRam_wM (t : State) (v : Memory) : (t.setRam v).wM = t.wM := rfl
@[simp] theorem setRam_wX (t : State) (v : Memory) : (t.setRam v).wX = t.wX := rfl
@[simp] theorem setRam_mask (t : State) (v : Memory) : (t.setRam v).mask = t.mask := rfl
@[simp] theorem setRom_m8 (t : State) (v : Memory) : (t.setRom v).m8 = t.m8 := rfl
@[simp] theorem setRom_x8 (t : State) (v : Memory) : (t.setRom v).x8 = t.x8 := rfl
@[simp] theorem setRom_wM (t : State) (v : Memory) : (t.setRom v).wM = t.wM := rfl
@[simp] theorem setRom_wX (t : State) (v : Memory) : (t.setRom v).wX = t.wX := rfl
@[simp] theorem setRom_mask (t : State) (v : Memory) : (t.setRom v).mask = t.mask := rfl
@[simp] theorem setNvb_m8 (t : State) (v : Byte) : (t.setNvb v).m8 = t.m8 := rfl
@[simp] theorem setNvb_x8 (t : State) (v : Byte) : (t.setNvb v).x8 = t.x8 := rfl
@[simp] theorem setNvb_wM (t : State) (v : Byte) : (t.setNvb v).wM = t.wM := rfl
@[simp] theorem setNvb_wX (t : State) (v : Byte) : (t.setNvb v).wX = t.wX := rfl
@[simp] theorem setNvb_mask (t : State) (v : Byte) : (t.setNvb v).mask = t.mask := rfl
@[simp] theorem setHost_m8 (t : State) (v : HostSide) : (t.setHost v).m8 = t.m8 := rfl
@[simp] theorem setHost_x8 (t : State) (v : HostSide) : (t.setHost v).x8 = t.x8 := rfl
@[simp] theorem setHost_wM (t : State) (v : HostSide) : (t.setHost v).wM = t.wM := rfl
@[simp] theorem setHost_wX (t : State) (v : HostSide) : (t.setHost v).wX = t.wX := rfl
@[simp] theorem setHost_mask (t : State) (v : HostSide) : (t.setHost v).mask = t.mask := rfl

/-! ### Two states with the same fields are equal -/

@[ext] theorem State.ext_fields {t u : State}
    (h_a : t.a = u.a) (h_x : t.x = u.x) (h_y : t.y = u.y) (h_s : t.s = u.s) (h_dp : t.dp = u.dp) (h_pc : t.pc = u.pc)
    (h_pbr : t.pbr = u.pbr) (h_dbr : t.dbr = u.dbr) (h_p : t.p = u.p) (h_e : t.e = u.e) (h_wai : t.wai = u.wai)
    (h_yieldReq : t.yieldReq = u.yieldReq) (h_cycles : t.cycles = u.cycles) (h_lines : t.lines = u.lines)
    (h_banks : t.banks = u.banks) (h_ram : t.ram = u.ram) (h_rom : t.rom = u.rom) (h_nvb : t.nvb = u.nvb)
    (h_cfg : t.cfg = u.cfg) (h_host : t.host = u.host) : t = u := by
  cases t; cases u; simp_all

end Sys2Proof.Machine
end

