-- ==== Sys2Proof/Laws/Frames.lean ====
section
/-! SUPPORT. Laws/Frames.lean: for each shared operation, the fields of the state it leaves alone, said once. A read
changes at most the cycle counter and the host's side; a write changes also the yield request, the latches and RAM; the
stack changes also S. -/

namespace Sys2Proof.Machine

/-- A debit. -/
@[simp] theorem debit_frame (t : State) (n : Nat) :
    (t.debit n).a = t.a ∧ (t.debit n).x = t.x ∧ (t.debit n).y = t.y ∧ (t.debit n).s = t.s ∧ (t.debit n).dp = t.dp ∧
    (t.debit n).pc = t.pc ∧ (t.debit n).pbr = t.pbr ∧ (t.debit n).dbr = t.dbr ∧ (t.debit n).p = t.p ∧
    (t.debit n).e = t.e ∧ (t.debit n).wai = t.wai ∧ (t.debit n).yieldReq = t.yieldReq ∧ (t.debit n).lines = t.lines ∧
    (t.debit n).banks = t.banks ∧ (t.debit n).ram = t.ram ∧ (t.debit n).rom = t.rom ∧ (t.debit n).nvb = t.nvb ∧
    (t.debit n).cfg = t.cfg ∧ (t.debit n).host = t.host ∧ (t.debit n).m8 = t.m8 ∧ (t.debit n).x8 = t.x8 ∧
    (t.debit n).wM = t.wM ∧ (t.debit n).wX = t.wX ∧ (t.debit n).mask = t.mask := by
  simp [State.debit]

/-- An accumulator write. -/
@[simp] theorem setAcc_frame (t : State) (v : Word) :
    (t.setAcc v).x = t.x ∧ (t.setAcc v).y = t.y ∧ (t.setAcc v).s = t.s ∧ (t.setAcc v).dp = t.dp ∧
    (t.setAcc v).pc = t.pc ∧ (t.setAcc v).pbr = t.pbr ∧ (t.setAcc v).dbr = t.dbr ∧ (t.setAcc v).p = t.p ∧
    (t.setAcc v).e = t.e ∧ (t.setAcc v).wai = t.wai ∧ (t.setAcc v).yieldReq = t.yieldReq ∧
    (t.setAcc v).cycles = t.cycles ∧ (t.setAcc v).lines = t.lines ∧ (t.setAcc v).banks = t.banks ∧
    (t.setAcc v).ram = t.ram ∧ (t.setAcc v).rom = t.rom ∧ (t.setAcc v).nvb = t.nvb ∧ (t.setAcc v).cfg = t.cfg ∧
    (t.setAcc v).host = t.host ∧ (t.setAcc v).m8 = t.m8 ∧ (t.setAcc v).x8 = t.x8 ∧ (t.setAcc v).wM = t.wM ∧
    (t.setAcc v).wX = t.wX ∧ (t.setAcc v).mask = t.mask := by
  unfold State.setAcc; split <;> simp

/-- An X write. -/
@[simp] theorem putX_frame (t : State) (v : Word) :
    (t.putX v).a = t.a ∧ (t.putX v).y = t.y ∧ (t.putX v).s = t.s ∧ (t.putX v).dp = t.dp ∧ (t.putX v).pc = t.pc ∧
    (t.putX v).pbr = t.pbr ∧ (t.putX v).dbr = t.dbr ∧ (t.putX v).p = t.p ∧ (t.putX v).e = t.e ∧
    (t.putX v).wai = t.wai ∧ (t.putX v).yieldReq = t.yieldReq ∧ (t.putX v).cycles = t.cycles ∧
    (t.putX v).lines = t.lines ∧ (t.putX v).banks = t.banks ∧ (t.putX v).ram = t.ram ∧ (t.putX v).rom = t.rom ∧
    (t.putX v).nvb = t.nvb ∧ (t.putX v).cfg = t.cfg ∧ (t.putX v).host = t.host ∧ (t.putX v).m8 = t.m8 ∧
    (t.putX v).x8 = t.x8 ∧ (t.putX v).wM = t.wM ∧ (t.putX v).wX = t.wX ∧ (t.putX v).mask = t.mask := by
  simp [State.putX]

/-- A Y write. -/
@[simp] theorem putY_frame (t : State) (v : Word) :
    (t.putY v).a = t.a ∧ (t.putY v).x = t.x ∧ (t.putY v).s = t.s ∧ (t.putY v).dp = t.dp ∧ (t.putY v).pc = t.pc ∧
    (t.putY v).pbr = t.pbr ∧ (t.putY v).dbr = t.dbr ∧ (t.putY v).p = t.p ∧ (t.putY v).e = t.e ∧
    (t.putY v).wai = t.wai ∧ (t.putY v).yieldReq = t.yieldReq ∧ (t.putY v).cycles = t.cycles ∧
    (t.putY v).lines = t.lines ∧ (t.putY v).banks = t.banks ∧ (t.putY v).ram = t.ram ∧ (t.putY v).rom = t.rom ∧
    (t.putY v).nvb = t.nvb ∧ (t.putY v).cfg = t.cfg ∧ (t.putY v).host = t.host ∧ (t.putY v).m8 = t.m8 ∧
    (t.putY v).x8 = t.x8 ∧ (t.putY v).wM = t.wM ∧ (t.putY v).wX = t.wX ∧ (t.putY v).mask = t.mask := by
  simp [State.putY]

/-- An update of n and z. -/
@[simp] theorem setNZ_frame (t : State) (w : Width) (v : Word) :
    (t.setNZ w v).a = t.a ∧ (t.setNZ w v).x = t.x ∧ (t.setNZ w v).y = t.y ∧ (t.setNZ w v).s = t.s ∧
    (t.setNZ w v).dp = t.dp ∧ (t.setNZ w v).pc = t.pc ∧ (t.setNZ w v).pbr = t.pbr ∧ (t.setNZ w v).dbr = t.dbr ∧
    (t.setNZ w v).e = t.e ∧ (t.setNZ w v).wai = t.wai ∧ (t.setNZ w v).yieldReq = t.yieldReq ∧
    (t.setNZ w v).cycles = t.cycles ∧ (t.setNZ w v).lines = t.lines ∧ (t.setNZ w v).banks = t.banks ∧
    (t.setNZ w v).ram = t.ram ∧ (t.setNZ w v).rom = t.rom ∧ (t.setNZ w v).nvb = t.nvb ∧ (t.setNZ w v).cfg = t.cfg ∧
    (t.setNZ w v).host = t.host ∧ (t.setNZ w v).mask = t.mask := by
  simp [State.setNZ]

/-- n and z are the only flags that `setNZ` changes. -/
@[simp] theorem setNZ_flags (t : State) (w : Width) (v : Word) :
    (t.setNZ w v).m8 = t.m8 ∧ (t.setNZ w v).x8 = t.x8 ∧ (t.setNZ w v).wM = t.wM ∧ (t.setNZ w v).wX = t.wX := by
  simp [State.setNZ, State.m8, State.x8, State.wM, State.wX, setNZ]

/-- What the register writes at a width write. -/
@[simp] theorem setNZ_p (t : State) (w : Width) (v : Word) : (t.setNZ w v).p = Machine.setNZ w v t.p := rfl
@[simp] theorem putX_x (t : State) (v : Word) : (t.putX v).x = t.wX.trunc v := rfl
@[simp] theorem putY_y (t : State) (v : Word) : (t.putY v).y = t.wX.trunc v := rfl
theorem setAcc_a (t : State) (v : Word) : (t.setAcc v).a = if t.m8 then join (hi t.a) (lo v) else v := by
  unfold State.setAcc State.wM widthOf
  cases t.m8 <;> simp

/-- A byte read. -/
@[simp] theorem afterRead_frame (t : State) (a : Addr) :
    (afterRead t a).a = t.a ∧ (afterRead t a).x = t.x ∧ (afterRead t a).y = t.y ∧ (afterRead t a).s = t.s ∧
    (afterRead t a).dp = t.dp ∧ (afterRead t a).pc = t.pc ∧ (afterRead t a).pbr = t.pbr ∧
    (afterRead t a).dbr = t.dbr ∧ (afterRead t a).p = t.p ∧ (afterRead t a).e = t.e ∧ (afterRead t a).wai = t.wai ∧
    (afterRead t a).yieldReq = t.yieldReq ∧ (afterRead t a).lines = t.lines ∧ (afterRead t a).banks = t.banks ∧
    (afterRead t a).ram = t.ram ∧ (afterRead t a).rom = t.rom ∧ (afterRead t a).nvb = t.nvb ∧
    (afterRead t a).cfg = t.cfg ∧ (afterRead t a).m8 = t.m8 ∧ (afterRead t a).x8 = t.x8 ∧ (afterRead t a).wM = t.wM ∧
    (afterRead t a).wX = t.wX ∧ (afterRead t a).mask = t.mask := by
  unfold afterRead; split <;> simp

/-- A byte read. -/
@[simp] theorem read8_frame (t : State) (a : Addr) :
    ((read8 a t).2).a = t.a ∧ ((read8 a t).2).x = t.x ∧ ((read8 a t).2).y = t.y ∧ ((read8 a t).2).s = t.s ∧
    ((read8 a t).2).dp = t.dp ∧ ((read8 a t).2).pc = t.pc ∧ ((read8 a t).2).pbr = t.pbr ∧
    ((read8 a t).2).dbr = t.dbr ∧ ((read8 a t).2).p = t.p ∧ ((read8 a t).2).e = t.e ∧ ((read8 a t).2).wai = t.wai ∧
    ((read8 a t).2).yieldReq = t.yieldReq ∧ ((read8 a t).2).lines = t.lines ∧ ((read8 a t).2).banks = t.banks ∧
    ((read8 a t).2).ram = t.ram ∧ ((read8 a t).2).rom = t.rom ∧ ((read8 a t).2).nvb = t.nvb ∧
    ((read8 a t).2).cfg = t.cfg ∧ ((read8 a t).2).m8 = t.m8 ∧ ((read8 a t).2).x8 = t.x8 ∧ ((read8 a t).2).wM = t.wM ∧
    ((read8 a t).2).wX = t.wX ∧ ((read8 a t).2).mask = t.mask := by
  simp [read8]

/-- An operand read. -/
@[simp] theorem memRead_frame (t : State) (w : Width) (cls : Wrap) (a : Addr) :
    ((memRead w cls a t).2).a = t.a ∧ ((memRead w cls a t).2).x = t.x ∧ ((memRead w cls a t).2).y = t.y ∧
    ((memRead w cls a t).2).s = t.s ∧ ((memRead w cls a t).2).dp = t.dp ∧ ((memRead w cls a t).2).pc = t.pc ∧
    ((memRead w cls a t).2).pbr = t.pbr ∧ ((memRead w cls a t).2).dbr = t.dbr ∧ ((memRead w cls a t).2).p = t.p ∧
    ((memRead w cls a t).2).e = t.e ∧ ((memRead w cls a t).2).wai = t.wai ∧
    ((memRead w cls a t).2).yieldReq = t.yieldReq ∧ ((memRead w cls a t).2).lines = t.lines ∧
    ((memRead w cls a t).2).banks = t.banks ∧ ((memRead w cls a t).2).ram = t.ram ∧
    ((memRead w cls a t).2).rom = t.rom ∧ ((memRead w cls a t).2).nvb = t.nvb ∧ ((memRead w cls a t).2).cfg = t.cfg ∧
    ((memRead w cls a t).2).m8 = t.m8 ∧ ((memRead w cls a t).2).x8 = t.x8 ∧ ((memRead w cls a t).2).wM = t.wM ∧
    ((memRead w cls a t).2).wX = t.wX ∧ ((memRead w cls a t).2).mask = t.mask := by
  cases w <;> simp [memRead]

/-- A 24-bit pointer read. -/
@[simp] theorem memRead24_frame (t : State) (cls : Wrap) (a : Addr) :
    ((memRead24 cls a t).2).a = t.a ∧ ((memRead24 cls a t).2).x = t.x ∧ ((memRead24 cls a t).2).y = t.y ∧
    ((memRead24 cls a t).2).s = t.s ∧ ((memRead24 cls a t).2).dp = t.dp ∧ ((memRead24 cls a t).2).pc = t.pc ∧
    ((memRead24 cls a t).2).pbr = t.pbr ∧ ((memRead24 cls a t).2).dbr = t.dbr ∧ ((memRead24 cls a t).2).p = t.p ∧
    ((memRead24 cls a t).2).e = t.e ∧ ((memRead24 cls a t).2).wai = t.wai ∧
    ((memRead24 cls a t).2).yieldReq = t.yieldReq ∧ ((memRead24 cls a t).2).lines = t.lines ∧
    ((memRead24 cls a t).2).banks = t.banks ∧ ((memRead24 cls a t).2).ram = t.ram ∧
    ((memRead24 cls a t).2).rom = t.rom ∧ ((memRead24 cls a t).2).nvb = t.nvb ∧ ((memRead24 cls a t).2).cfg = t.cfg ∧
    ((memRead24 cls a t).2).m8 = t.m8 ∧ ((memRead24 cls a t).2).x8 = t.x8 ∧ ((memRead24 cls a t).2).wM = t.wM ∧
    ((memRead24 cls a t).2).wX = t.wX ∧ ((memRead24 cls a t).2).mask = t.mask := by
  simp [memRead24]

/-- A 16-bit pointer or vector read. -/
@[simp] theorem readPointer_frame (t : State) (b : Byte) (w : Word) :
    ((readPointer b w t).2).a = t.a ∧ ((readPointer b w t).2).x = t.x ∧ ((readPointer b w t).2).y = t.y ∧
    ((readPointer b w t).2).s = t.s ∧ ((readPointer b w t).2).dp = t.dp ∧ ((readPointer b w t).2).pc = t.pc ∧
    ((readPointer b w t).2).pbr = t.pbr ∧ ((readPointer b w t).2).dbr = t.dbr ∧ ((readPointer b w t).2).p = t.p ∧
    ((readPointer b w t).2).e = t.e ∧ ((readPointer b w t).2).wai = t.wai ∧
    ((readPointer b w t).2).yieldReq = t.yieldReq ∧ ((readPointer b w t).2).lines = t.lines ∧
    ((readPointer b w t).2).banks = t.banks ∧ ((readPointer b w t).2).ram = t.ram ∧
    ((readPointer b w t).2).rom = t.rom ∧ ((readPointer b w t).2).nvb = t.nvb ∧ ((readPointer b w t).2).cfg = t.cfg ∧
    ((readPointer b w t).2).m8 = t.m8 ∧ ((readPointer b w t).2).x8 = t.x8 ∧ ((readPointer b w t).2).wM = t.wM ∧
    ((readPointer b w t).2).wX = t.wX ∧ ((readPointer b w t).2).mask = t.mask := by
  simp [readPointer]

/-- A fetch. -/
@[simp] theorem fetch8_frame (t : State) :
    ((fetch8 t).2).a = t.a ∧ ((fetch8 t).2).x = t.x ∧ ((fetch8 t).2).y = t.y ∧ ((fetch8 t).2).s = t.s ∧
    ((fetch8 t).2).dp = t.dp ∧ ((fetch8 t).2).pbr = t.pbr ∧ ((fetch8 t).2).dbr = t.dbr ∧ ((fetch8 t).2).p = t.p ∧
    ((fetch8 t).2).e = t.e ∧ ((fetch8 t).2).wai = t.wai ∧ ((fetch8 t).2).yieldReq = t.yieldReq ∧
    ((fetch8 t).2).lines = t.lines ∧ ((fetch8 t).2).banks = t.banks ∧ ((fetch8 t).2).ram = t.ram ∧
    ((fetch8 t).2).rom = t.rom ∧ ((fetch8 t).2).nvb = t.nvb ∧ ((fetch8 t).2).cfg = t.cfg ∧ ((fetch8 t).2).m8 = t.m8 ∧
    ((fetch8 t).2).x8 = t.x8 ∧ ((fetch8 t).2).wM = t.wM ∧ ((fetch8 t).2).wX = t.wX ∧ ((fetch8 t).2).mask = t.mask := by
  simp [fetch8]

/-- A byte write. -/
@[simp] theorem write8_frame (t : State) (a : Addr) (v : Byte) :
    (write8 a v t).a = t.a ∧ (write8 a v t).x = t.x ∧ (write8 a v t).y = t.y ∧ (write8 a v t).s = t.s ∧
    (write8 a v t).dp = t.dp ∧ (write8 a v t).pc = t.pc ∧ (write8 a v t).pbr = t.pbr ∧ (write8 a v t).dbr = t.dbr ∧
    (write8 a v t).p = t.p ∧ (write8 a v t).e = t.e ∧ (write8 a v t).wai = t.wai ∧ (write8 a v t).lines = t.lines ∧
    (write8 a v t).rom = t.rom ∧ (write8 a v t).nvb = t.nvb ∧ (write8 a v t).cfg = t.cfg ∧ (write8 a v t).m8 = t.m8 ∧
    (write8 a v t).x8 = t.x8 ∧ (write8 a v t).wM = t.wM ∧ (write8 a v t).wX = t.wX := by
  unfold write8; split <;> simp

/-- An operand write. -/
@[simp] theorem memWrite_frame (t : State) (w : Width) (cls : Wrap) (a : Addr) (v : Word) :
    (memWrite w cls a v t).a = t.a ∧ (memWrite w cls a v t).x = t.x ∧ (memWrite w cls a v t).y = t.y ∧
    (memWrite w cls a v t).s = t.s ∧ (memWrite w cls a v t).dp = t.dp ∧ (memWrite w cls a v t).pc = t.pc ∧
    (memWrite w cls a v t).pbr = t.pbr ∧ (memWrite w cls a v t).dbr = t.dbr ∧ (memWrite w cls a v t).p = t.p ∧
    (memWrite w cls a v t).e = t.e ∧ (memWrite w cls a v t).wai = t.wai ∧ (memWrite w cls a v t).lines = t.lines ∧
    (memWrite w cls a v t).rom = t.rom ∧ (memWrite w cls a v t).nvb = t.nvb ∧ (memWrite w cls a v t).cfg = t.cfg ∧
    (memWrite w cls a v t).m8 = t.m8 ∧ (memWrite w cls a v t).x8 = t.x8 ∧ (memWrite w cls a v t).wM = t.wM ∧
    (memWrite w cls a v t).wX = t.wX := by
  cases w <;> simp [memWrite]

/-- The direct-page charge. -/
@[simp] theorem dpCharge_frame (t : State) :
    (dpCharge t).a = t.a ∧ (dpCharge t).x = t.x ∧ (dpCharge t).y = t.y ∧ (dpCharge t).s = t.s ∧
    (dpCharge t).dp = t.dp ∧ (dpCharge t).pc = t.pc ∧ (dpCharge t).pbr = t.pbr ∧ (dpCharge t).dbr = t.dbr ∧
    (dpCharge t).p = t.p ∧ (dpCharge t).e = t.e ∧ (dpCharge t).wai = t.wai ∧ (dpCharge t).yieldReq = t.yieldReq ∧
    (dpCharge t).lines = t.lines ∧ (dpCharge t).banks = t.banks ∧ (dpCharge t).ram = t.ram ∧
    (dpCharge t).rom = t.rom ∧ (dpCharge t).nvb = t.nvb ∧ (dpCharge t).cfg = t.cfg ∧ (dpCharge t).host = t.host ∧
    (dpCharge t).m8 = t.m8 ∧ (dpCharge t).x8 = t.x8 ∧ (dpCharge t).wM = t.wM ∧ (dpCharge t).wX = t.wX ∧
    (dpCharge t).mask = t.mask := by
  unfold dpCharge; split <;> simp

/-- The indexed-absolute charge. -/
@[simp] theorem indexCharge_frame (t : State) (w r : Word) :
    (indexCharge w r t).a = t.a ∧ (indexCharge w r t).x = t.x ∧ (indexCharge w r t).y = t.y ∧
    (indexCharge w r t).s = t.s ∧ (indexCharge w r t).dp = t.dp ∧ (indexCharge w r t).pc = t.pc ∧
    (indexCharge w r t).pbr = t.pbr ∧ (indexCharge w r t).dbr = t.dbr ∧ (indexCharge w r t).p = t.p ∧
    (indexCharge w r t).e = t.e ∧ (indexCharge w r t).wai = t.wai ∧ (indexCharge w r t).yieldReq = t.yieldReq ∧
    (indexCharge w r t).lines = t.lines ∧ (indexCharge w r t).banks = t.banks ∧ (indexCharge w r t).ram = t.ram ∧
    (indexCharge w r t).rom = t.rom ∧ (indexCharge w r t).nvb = t.nvb ∧ (indexCharge w r t).cfg = t.cfg ∧
    (indexCharge w r t).host = t.host ∧ (indexCharge w r t).m8 = t.m8 ∧ (indexCharge w r t).x8 = t.x8 ∧
    (indexCharge w r t).wM = t.wM ∧ (indexCharge w r t).wX = t.wX ∧ (indexCharge w r t).mask = t.mask := by
  unfold indexCharge; split <;> simp

/-- The pointer of (d),Y. -/
@[simp] theorem indirectYPointer_frame (t : State) (d : Byte) :
    ((indirectYPointer d t).2).a = t.a ∧ ((indirectYPointer d t).2).x = t.x ∧ ((indirectYPointer d t).2).y = t.y ∧
    ((indirectYPointer d t).2).s = t.s ∧ ((indirectYPointer d t).2).dp = t.dp ∧
    ((indirectYPointer d t).2).pc = t.pc ∧ ((indirectYPointer d t).2).pbr = t.pbr ∧
    ((indirectYPointer d t).2).dbr = t.dbr ∧ ((indirectYPointer d t).2).p = t.p ∧
    ((indirectYPointer d t).2).e = t.e ∧ ((indirectYPointer d t).2).wai = t.wai ∧
    ((indirectYPointer d t).2).yieldReq = t.yieldReq ∧ ((indirectYPointer d t).2).lines = t.lines ∧
    ((indirectYPointer d t).2).banks = t.banks ∧ ((indirectYPointer d t).2).ram = t.ram ∧
    ((indirectYPointer d t).2).rom = t.rom ∧ ((indirectYPointer d t).2).nvb = t.nvb ∧
    ((indirectYPointer d t).2).cfg = t.cfg ∧ ((indirectYPointer d t).2).m8 = t.m8 ∧
    ((indirectYPointer d t).2).x8 = t.x8 ∧ ((indirectYPointer d t).2).wM = t.wM ∧
    ((indirectYPointer d t).2).wX = t.wX ∧ ((indirectYPointer d t).2).mask = t.mask := by
  unfold indirectYPointer; split <;> simp

/-- A resolver. -/
@[simp] theorem resolve_frame (t : State) (m : AddrMode) :
    ((resolve m t).2).a = t.a ∧ ((resolve m t).2).x = t.x ∧ ((resolve m t).2).y = t.y ∧ ((resolve m t).2).s = t.s ∧
    ((resolve m t).2).dp = t.dp ∧ ((resolve m t).2).pc = t.pc ∧ ((resolve m t).2).pbr = t.pbr ∧
    ((resolve m t).2).dbr = t.dbr ∧ ((resolve m t).2).p = t.p ∧ ((resolve m t).2).e = t.e ∧
    ((resolve m t).2).wai = t.wai ∧ ((resolve m t).2).yieldReq = t.yieldReq ∧ ((resolve m t).2).lines = t.lines ∧
    ((resolve m t).2).banks = t.banks ∧ ((resolve m t).2).ram = t.ram ∧ ((resolve m t).2).rom = t.rom ∧
    ((resolve m t).2).nvb = t.nvb ∧ ((resolve m t).2).cfg = t.cfg ∧ ((resolve m t).2).m8 = t.m8 ∧
    ((resolve m t).2).x8 = t.x8 ∧ ((resolve m t).2).wM = t.wM ∧ ((resolve m t).2).wX = t.wX ∧
    ((resolve m t).2).mask = t.mask := by
  cases m <;> simp [resolve]

/-- A source operand. -/
@[simp] theorem loadOp_frame (t : State) (o : Operand) (w : Width) :
    ((loadOp o w t).2).a = t.a ∧ ((loadOp o w t).2).x = t.x ∧ ((loadOp o w t).2).y = t.y ∧
    ((loadOp o w t).2).s = t.s ∧ ((loadOp o w t).2).dp = t.dp ∧ ((loadOp o w t).2).pc = t.pc ∧
    ((loadOp o w t).2).pbr = t.pbr ∧ ((loadOp o w t).2).dbr = t.dbr ∧ ((loadOp o w t).2).p = t.p ∧
    ((loadOp o w t).2).e = t.e ∧ ((loadOp o w t).2).wai = t.wai ∧ ((loadOp o w t).2).yieldReq = t.yieldReq ∧
    ((loadOp o w t).2).lines = t.lines ∧ ((loadOp o w t).2).banks = t.banks ∧ ((loadOp o w t).2).ram = t.ram ∧
    ((loadOp o w t).2).rom = t.rom ∧ ((loadOp o w t).2).nvb = t.nvb ∧ ((loadOp o w t).2).cfg = t.cfg ∧
    ((loadOp o w t).2).m8 = t.m8 ∧ ((loadOp o w t).2).x8 = t.x8 ∧ ((loadOp o w t).2).wM = t.wM ∧
    ((loadOp o w t).2).wX = t.wX ∧ ((loadOp o w t).2).mask = t.mask := by
  cases o <;> simp [loadOp]

/-- A destination operand. -/
@[simp] theorem storeOp_frame (t : State) (m : AddrMode) (w : Width) (v : Word) :
    (storeOp m w v t).a = t.a ∧ (storeOp m w v t).x = t.x ∧ (storeOp m w v t).y = t.y ∧ (storeOp m w v t).s = t.s ∧
    (storeOp m w v t).dp = t.dp ∧ (storeOp m w v t).pc = t.pc ∧ (storeOp m w v t).pbr = t.pbr ∧
    (storeOp m w v t).dbr = t.dbr ∧ (storeOp m w v t).p = t.p ∧ (storeOp m w v t).e = t.e ∧
    (storeOp m w v t).wai = t.wai ∧ (storeOp m w v t).lines = t.lines ∧ (storeOp m w v t).rom = t.rom ∧
    (storeOp m w v t).nvb = t.nvb ∧ (storeOp m w v t).cfg = t.cfg ∧ (storeOp m w v t).m8 = t.m8 ∧
    (storeOp m w v t).x8 = t.x8 ∧ (storeOp m w v t).wM = t.wM ∧ (storeOp m w v t).wX = t.wX := by
  simp [storeOp]

/-- A push of a byte. -/
@[simp] theorem push8_frame (t : State) (v : Byte) :
    (push8 v t).a = t.a ∧ (push8 v t).x = t.x ∧ (push8 v t).y = t.y ∧ (push8 v t).dp = t.dp ∧ (push8 v t).pc = t.pc ∧
    (push8 v t).pbr = t.pbr ∧ (push8 v t).dbr = t.dbr ∧ (push8 v t).p = t.p ∧ (push8 v t).e = t.e ∧
    (push8 v t).wai = t.wai ∧ (push8 v t).lines = t.lines ∧ (push8 v t).rom = t.rom ∧ (push8 v t).nvb = t.nvb ∧
    (push8 v t).cfg = t.cfg ∧ (push8 v t).m8 = t.m8 ∧ (push8 v t).x8 = t.x8 ∧ (push8 v t).wM = t.wM ∧
    (push8 v t).wX = t.wX := by
  simp [push8]

/-- A push of a word. -/
@[simp] theorem push16_frame (t : State) (v : Word) :
    (push16 v t).a = t.a ∧ (push16 v t).x = t.x ∧ (push16 v t).y = t.y ∧ (push16 v t).dp = t.dp ∧
    (push16 v t).pc = t.pc ∧ (push16 v t).pbr = t.pbr ∧ (push16 v t).dbr = t.dbr ∧ (push16 v t).p = t.p ∧
    (push16 v t).e = t.e ∧ (push16 v t).wai = t.wai ∧ (push16 v t).lines = t.lines ∧ (push16 v t).rom = t.rom ∧
    (push16 v t).nvb = t.nvb ∧ (push16 v t).cfg = t.cfg ∧ (push16 v t).m8 = t.m8 ∧ (push16 v t).x8 = t.x8 ∧
    (push16 v t).wM = t.wM ∧ (push16 v t).wX = t.wX := by
  simp [push16]

/-- A push by a width. -/
@[simp] theorem push_frame (t : State) (w : Width) (v : Word) :
    (push w v t).a = t.a ∧ (push w v t).x = t.x ∧ (push w v t).y = t.y ∧ (push w v t).dp = t.dp ∧
    (push w v t).pc = t.pc ∧ (push w v t).pbr = t.pbr ∧ (push w v t).dbr = t.dbr ∧ (push w v t).p = t.p ∧
    (push w v t).e = t.e ∧ (push w v t).wai = t.wai ∧ (push w v t).lines = t.lines ∧ (push w v t).rom = t.rom ∧
    (push w v t).nvb = t.nvb ∧ (push w v t).cfg = t.cfg ∧ (push w v t).m8 = t.m8 ∧ (push w v t).x8 = t.x8 ∧
    (push w v t).wM = t.wM ∧ (push w v t).wX = t.wX := by
  cases w <;> simp [push]

/-- A pull of a byte. -/
@[simp] theorem pull8_frame (t : State) :
    ((pull8 t).2).a = t.a ∧ ((pull8 t).2).x = t.x ∧ ((pull8 t).2).y = t.y ∧ ((pull8 t).2).dp = t.dp ∧
    ((pull8 t).2).pc = t.pc ∧ ((pull8 t).2).pbr = t.pbr ∧ ((pull8 t).2).dbr = t.dbr ∧ ((pull8 t).2).p = t.p ∧
    ((pull8 t).2).e = t.e ∧ ((pull8 t).2).wai = t.wai ∧ ((pull8 t).2).yieldReq = t.yieldReq ∧
    ((pull8 t).2).lines = t.lines ∧ ((pull8 t).2).banks = t.banks ∧ ((pull8 t).2).ram = t.ram ∧
    ((pull8 t).2).rom = t.rom ∧ ((pull8 t).2).nvb = t.nvb ∧ ((pull8 t).2).cfg = t.cfg ∧ ((pull8 t).2).m8 = t.m8 ∧
    ((pull8 t).2).x8 = t.x8 ∧ ((pull8 t).2).wM = t.wM ∧ ((pull8 t).2).wX = t.wX ∧ ((pull8 t).2).mask = t.mask := by
  simp [pull8]

/-- A pull of a word. -/
@[simp] theorem pull16_frame (t : State) :
    ((pull16 t).2).a = t.a ∧ ((pull16 t).2).x = t.x ∧ ((pull16 t).2).y = t.y ∧ ((pull16 t).2).dp = t.dp ∧
    ((pull16 t).2).pc = t.pc ∧ ((pull16 t).2).pbr = t.pbr ∧ ((pull16 t).2).dbr = t.dbr ∧ ((pull16 t).2).p = t.p ∧
    ((pull16 t).2).e = t.e ∧ ((pull16 t).2).wai = t.wai ∧ ((pull16 t).2).yieldReq = t.yieldReq ∧
    ((pull16 t).2).lines = t.lines ∧ ((pull16 t).2).banks = t.banks ∧ ((pull16 t).2).ram = t.ram ∧
    ((pull16 t).2).rom = t.rom ∧ ((pull16 t).2).nvb = t.nvb ∧ ((pull16 t).2).cfg = t.cfg ∧ ((pull16 t).2).m8 = t.m8 ∧
    ((pull16 t).2).x8 = t.x8 ∧ ((pull16 t).2).wM = t.wM ∧ ((pull16 t).2).wX = t.wX ∧ ((pull16 t).2).mask = t.mask := by
  simp [pull16]

/-- A pull by a width. -/
@[simp] theorem pull_frame (t : State) (w : Width) :
    ((pull w t).2).a = t.a ∧ ((pull w t).2).x = t.x ∧ ((pull w t).2).y = t.y ∧ ((pull w t).2).dp = t.dp ∧
    ((pull w t).2).pc = t.pc ∧ ((pull w t).2).pbr = t.pbr ∧ ((pull w t).2).dbr = t.dbr ∧ ((pull w t).2).p = t.p ∧
    ((pull w t).2).e = t.e ∧ ((pull w t).2).wai = t.wai ∧ ((pull w t).2).yieldReq = t.yieldReq ∧
    ((pull w t).2).lines = t.lines ∧ ((pull w t).2).banks = t.banks ∧ ((pull w t).2).ram = t.ram ∧
    ((pull w t).2).rom = t.rom ∧ ((pull w t).2).nvb = t.nvb ∧ ((pull w t).2).cfg = t.cfg ∧ ((pull w t).2).m8 = t.m8 ∧
    ((pull w t).2).x8 = t.x8 ∧ ((pull w t).2).wM = t.wM ∧ ((pull w t).2).wX = t.wX ∧ ((pull w t).2).mask = t.mask := by
  cases w <;> simp [pull]

/-- The frame of an interrupt. -/
@[simp] theorem pushFrame_frame (t : State) (k : Event) :
    (pushFrame k t).a = t.a ∧ (pushFrame k t).x = t.x ∧ (pushFrame k t).y = t.y ∧ (pushFrame k t).dp = t.dp ∧
    (pushFrame k t).pc = t.pc ∧ (pushFrame k t).pbr = t.pbr ∧ (pushFrame k t).dbr = t.dbr ∧ (pushFrame k t).p = t.p ∧
    (pushFrame k t).e = t.e ∧ (pushFrame k t).wai = t.wai ∧ (pushFrame k t).lines = t.lines ∧
    (pushFrame k t).rom = t.rom ∧ (pushFrame k t).nvb = t.nvb ∧ (pushFrame k t).cfg = t.cfg ∧
    (pushFrame k t).m8 = t.m8 ∧ (pushFrame k t).x8 = t.x8 ∧ (pushFrame k t).wM = t.wM ∧ (pushFrame k t).wX = t.wX := by
  unfold pushFrame; split <;> simp

/-- The clearing of XH and YH. -/
@[simp] theorem clearIndexHigh_frame (t : State) :
    (t.clearIndexHigh).a = t.a ∧ (t.clearIndexHigh).s = t.s ∧ (t.clearIndexHigh).dp = t.dp ∧
    (t.clearIndexHigh).pc = t.pc ∧ (t.clearIndexHigh).pbr = t.pbr ∧ (t.clearIndexHigh).dbr = t.dbr ∧
    (t.clearIndexHigh).p = t.p ∧ (t.clearIndexHigh).e = t.e ∧ (t.clearIndexHigh).wai = t.wai ∧
    (t.clearIndexHigh).yieldReq = t.yieldReq ∧ (t.clearIndexHigh).cycles = t.cycles ∧
    (t.clearIndexHigh).lines = t.lines ∧ (t.clearIndexHigh).banks = t.banks ∧ (t.clearIndexHigh).ram = t.ram ∧
    (t.clearIndexHigh).rom = t.rom ∧ (t.clearIndexHigh).nvb = t.nvb ∧ (t.clearIndexHigh).cfg = t.cfg ∧
    (t.clearIndexHigh).host = t.host ∧ (t.clearIndexHigh).m8 = t.m8 ∧ (t.clearIndexHigh).x8 = t.x8 ∧
    (t.clearIndexHigh).wM = t.wM ∧ (t.clearIndexHigh).wX = t.wX ∧ (t.clearIndexHigh).mask = t.mask := by
  simp [State.clearIndexHigh]

/-- The native unpacking. -/
@[simp] theorem unpackN_frame (t : State) (v : Byte) :
    (t.unpackN v).a = t.a ∧ (t.unpackN v).s = t.s ∧ (t.unpackN v).dp = t.dp ∧ (t.unpackN v).pc = t.pc ∧
    (t.unpackN v).pbr = t.pbr ∧ (t.unpackN v).dbr = t.dbr ∧ (t.unpackN v).e = t.e ∧ (t.unpackN v).wai = t.wai ∧
    (t.unpackN v).yieldReq = t.yieldReq ∧ (t.unpackN v).cycles = t.cycles ∧ (t.unpackN v).lines = t.lines ∧
    (t.unpackN v).banks = t.banks ∧ (t.unpackN v).ram = t.ram ∧ (t.unpackN v).rom = t.rom ∧
    (t.unpackN v).nvb = t.nvb ∧ (t.unpackN v).cfg = t.cfg ∧ (t.unpackN v).host = t.host ∧ (t.unpackN v).mask = t.mask := by
  unfold State.unpackN; split <;> simp

/-- The emulation unpacking. -/
@[simp] theorem unpackE_frame (t : State) (v : Byte) :
    (t.unpackE v).a = t.a ∧ (t.unpackE v).x = t.x ∧ (t.unpackE v).y = t.y ∧ (t.unpackE v).s = t.s ∧
    (t.unpackE v).dp = t.dp ∧ (t.unpackE v).pc = t.pc ∧ (t.unpackE v).pbr = t.pbr ∧ (t.unpackE v).dbr = t.dbr ∧
    (t.unpackE v).e = t.e ∧ (t.unpackE v).wai = t.wai ∧ (t.unpackE v).yieldReq = t.yieldReq ∧
    (t.unpackE v).cycles = t.cycles ∧ (t.unpackE v).lines = t.lines ∧ (t.unpackE v).banks = t.banks ∧
    (t.unpackE v).ram = t.ram ∧ (t.unpackE v).rom = t.rom ∧ (t.unpackE v).nvb = t.nvb ∧ (t.unpackE v).cfg = t.cfg ∧
    (t.unpackE v).host = t.host ∧ (t.unpackE v).mask = t.mask := by
  simp [State.unpackE]

/-- The unpacking. -/
@[simp] theorem unpack_frame (t : State) (v : Byte) :
    (t.unpack v).a = t.a ∧ (t.unpack v).s = t.s ∧ (t.unpack v).dp = t.dp ∧ (t.unpack v).pc = t.pc ∧
    (t.unpack v).pbr = t.pbr ∧ (t.unpack v).dbr = t.dbr ∧ (t.unpack v).e = t.e ∧ (t.unpack v).wai = t.wai ∧
    (t.unpack v).yieldReq = t.yieldReq ∧ (t.unpack v).cycles = t.cycles ∧ (t.unpack v).lines = t.lines ∧
    (t.unpack v).banks = t.banks ∧ (t.unpack v).ram = t.ram ∧ (t.unpack v).rom = t.rom ∧ (t.unpack v).nvb = t.nvb ∧
    (t.unpack v).cfg = t.cfg ∧ (t.unpack v).host = t.host ∧ (t.unpack v).mask = t.mask := by
  unfold State.unpack; split <;> simp

end Sys2Proof.Machine
end

