-- ==== Sys2Proof/Laws/Memory.lean ====
section
/-! SUPPORT. Laws/Memory.lean: the laws of a byte array: what a read gives after a write, and that a write keeps the
canonical form. -/

namespace Sys2Proof.Machine

/-- An index below every listed one is unlisted. -/
theorem read_of_lt (m : Memory) (i : Nat) (h : ∀ c ∈ m, i < c.1) : m.read i = Memory.blank := by
  induction m with
  | nil => rfl
  | cons c rest ih =>
    obtain ⟨k, v⟩ := c
    have hk : k ≠ i := by
      have : i < k := h (k, v) (by simp)
      omega
    simp only [Memory.read, if_neg hk]
    exact ih fun c hc => h c (by simp [hc])

/-- What a list in canonical form says of its head and its tail. -/
theorem wf_cons (k : Nat) (v : Byte) (rest : Memory) :
    Memory.wf ((k, v) :: rest) = true ↔ v ≠ Memory.blank ∧ (∀ c ∈ rest, k < c.1) ∧ rest.wf = true := by
  simp [Memory.wf, and_assoc]

@[simp] theorem read_cons_self (i : Nat) (v : Byte) (rest : Memory) (h : ∀ c ∈ rest, i < c.1) :
    (Memory.cons i v rest).read i = v := by
  unfold Memory.cons
  split
  · next hb => rw [hb]; exact read_of_lt rest i h
  · simp [Memory.read]

theorem read_cons_other (i j : Nat) (v : Byte) (rest : Memory) (hij : i ≠ j) :
    (Memory.cons i v rest).read j = rest.read j := by
  unfold Memory.cons
  split
  · rfl
  · simp [Memory.read, hij]

/-- A read of the index just written gives the byte written. -/
theorem read_write_same (m : Memory) (i : Nat) (v : Byte) (h : m.wf = true) : (m.write i v).read i = v := by
  induction m with
  | nil => simp [Memory.write]
  | cons c rest ih =>
    obtain ⟨k, u⟩ := c
    obtain ⟨-, hlt, hwf⟩ := (wf_cons k u rest).mp h
    simp only [Memory.write]
    split
    · next hik =>
      refine read_cons_self i v _ fun c hc => ?_
      rcases List.mem_cons.mp hc with rfl | hc
      · exact hik
      · exact Nat.lt_trans hik (hlt c hc)
    · split
      · next hik => exact read_cons_self i v _ fun c hc => hik ▸ hlt c hc
      · next hne =>
        simp only [Memory.read, if_neg (Ne.symm hne)]
        exact ih hwf

/-- A write leaves every other index alone. -/
theorem read_write_other (m : Memory) (i j : Nat) (v : Byte) (hij : i ≠ j) : (m.write i v).read j = m.read j := by
  induction m with
  | nil => simp [Memory.write, read_cons_other i j v [] hij]
  | cons c rest ih =>
    obtain ⟨k, u⟩ := c
    simp only [Memory.write]
    split
    · exact read_cons_other i j v _ hij
    · split
      · next hik =>
        rw [read_cons_other i j v _ hij]
        simp [Memory.read, ← hik, hij]
      · simp only [Memory.read, ih]

/-- The indexes of a written list are the written one and old ones. -/
theorem mem_write (m : Memory) (i : Nat) (v : Byte) (c : Host.Cell) (h : c ∈ m.write i v) : c = (i, v) ∨ c ∈ m := by
  induction m with
  | nil =>
    simp only [Memory.write, Memory.cons] at h
    split at h <;> simp_all
  | cons d rest ih =>
    obtain ⟨k, u⟩ := d
    simp only [Memory.write, Memory.cons] at h
    split at h
    · split at h
      · exact .inr h
      · simpa using h
    · split at h
      · split at h
        · exact .inr (by simp [h])
        · rcases List.mem_cons.mp h with h | h
          · exact .inl h
          · exact .inr (by simp [h])
      · rcases List.mem_cons.mp h with h | h
        · exact .inr (by simp [h])
        · rcases ih h with h | h
          · exact .inl h
          · exact .inr (by simp [h])

theorem wf_consCell (i : Nat) (v : Byte) (rest : Memory) (hlt : ∀ c ∈ rest, i < c.1) (hwf : rest.wf = true) :
    (Memory.cons i v rest).wf = true := by
  unfold Memory.cons
  split
  · exact hwf
  · next hb => exact (wf_cons i v rest).mpr ⟨hb, hlt, hwf⟩

/-- A write keeps the canonical form. -/
theorem wf_write (m : Memory) (i : Nat) (v : Byte) (h : m.wf = true) : (m.write i v).wf = true := by
  induction m with
  | nil => exact wf_consCell i v [] (by simp) rfl
  | cons c rest ih =>
    obtain ⟨k, u⟩ := c
    obtain ⟨hb, hlt, hwf⟩ := (wf_cons k u rest).mp h
    simp only [Memory.write]
    split
    · next hik =>
      refine wf_consCell i v _ (fun c hc => ?_) h
      rcases List.mem_cons.mp hc with rfl | hc
      · exact hik
      · exact Nat.lt_trans hik (hlt c hc)
    · split
      · next hik => exact wf_consCell i v _ (fun c hc => hik ▸ hlt c hc) hwf
      · next hge hne =>
        refine (wf_cons k u _).mpr ⟨hb, fun c hc => ?_, ih hwf⟩
        rcases mem_write rest i v c hc with rfl | hc
        · show k < i
          omega
        · exact hlt c hc

/-- A write below `n` keeps every listed index below `n`. -/
theorem below_write (n : Nat) (m : Memory) (i : Nat) (v : Byte) (hi : i < n) (h : m.below n = true) :
    (m.write i v).below n = true := by
  simp only [Memory.below, List.all_eq_true, decide_eq_true_eq] at *
  intro c hc
  rcases mem_write m i v c hc with rfl | hc
  · exact hi
  · exact h c hc

/-- Two arrays in canonical form that read alike are equal. -/
theorem eq_of_read_eq (m n : Memory) (hm : m.wf = true) (hn : n.wf = true) (h : ∀ i, m.read i = n.read i) : m = n := by
  induction m generalizing n with
  | nil =>
    cases n with
    | nil => rfl
    | cons c rest =>
      obtain ⟨k, v⟩ := c
      have := h k
      simp only [Memory.read, ite_true] at this
      exact absurd this.symm ((wf_cons k v rest).mp hn).1
  | cons c rest ih =>
    obtain ⟨k, v⟩ := c
    obtain ⟨hv, hlt, hwf⟩ := (wf_cons k v rest).mp hm
    cases n with
    | nil =>
      have := h k
      simp only [Memory.read, ite_true] at this
      exact absurd this hv
    | cons d rest' =>
      obtain ⟨k', v'⟩ := d
      obtain ⟨hv', hlt', hwf'⟩ := (wf_cons k' v' rest').mp hn
      have hk : k = k' := by
        rcases Nat.lt_trichotomy k k' with hl | he | hg
        · have hr := h k
          rw [read_of_lt ((k', v') :: rest') k (by
            intro c hc
            rcases List.mem_cons.mp hc with rfl | hc
            · exact hl
            · exact Nat.lt_trans hl (hlt' c hc))] at hr
          simp only [Memory.read, ite_true] at hr
          exact absurd hr hv
        · exact he
        · have hr := h k'
          rw [read_of_lt ((k, v) :: rest) k' (by
            intro c hc
            rcases List.mem_cons.mp hc with rfl | hc
            · exact hg
            · exact Nat.lt_trans hg (hlt c hc))] at hr
          simp only [Memory.read, ite_true] at hr
          exact absurd hr.symm hv'
      subst hk
      have hvv : v = v' := by simpa [Memory.read] using h k
      subst hvv
      have : rest = rest' := ih rest' hwf hwf' fun i => by
        by_cases hik : k = i
        · subst hik
          rw [read_of_lt rest k hlt, read_of_lt rest' k hlt']
        · simpa [Memory.read, hik] using h i
      rw [this]

end Sys2Proof.Machine
end

