-- ==== Sys2Proof/Laws/Access.lean ====
section
/-! SUPPORT. Laws/Access.lean: for each access of memory, everything it can do, said once: what the decoder depends on and
which cells it reaches, what a byte read and a byte write change, what each access costs, and that every access keeps the
memory arrays in canonical form. -/

namespace Sys2Proof.Machine

/-! ### The decoder -/

/-- The decoder depends on the latches and the parameters alone. -/
theorem memPlace_congr (s t : State) (a : Addr) (hb : s.banks = t.banks) (hc : s.cfg = t.cfg) :
    memPlace s a = memPlace t a := by
  simp only [memPlace, hb, hc]

theorem mask_congr (s t : State) (hb : s.banks = t.banks) : s.mask = t.mask := by
  simp only [State.mask, hb]

theorem readTarget_congr (s t : State) (a : Addr) (hb : s.banks = t.banks) (hc : s.cfg = t.cfg) :
    readTarget s a = readTarget t a := by
  simp only [readTarget, mask_congr s t hb, memPlace_congr s t _ hb hc, hc]

theorem writeTarget_congr (s t : State) (a : Addr) (hb : s.banks = t.banks) (hc : s.cfg = t.cfg) :
    writeTarget s a = writeTarget t a := by
  simp only [writeTarget, mask_congr s t hb, memPlace_congr s t _ hb hc, hc]

/-- A byte read depends on the latches, the parameters, the two arrays and the host's answers alone. -/
theorem peek_congr (s t : State) (a : Addr) (hb : s.banks = t.banks) (hc : s.cfg = t.cfg) (hm : s.ram = t.ram)
    (ho : s.rom = t.rom) (hh : s.host = t.host) : peek s a = peek t a := by
  simp only [peek, readTarget_congr s t a hb hc, hh]
  cases readTarget t a with
  | tube reg => rfl
  | mem p => cases p <;> simp only [State.at, hm, ho]

/-- Where a write reaches a byte of memory, a read reaches the same byte. -/
theorem readTarget_of_write (s : State) (a : Addr) (p : Place) (h : writeTarget s a = .mem p) :
    readTarget s a = .mem p := by
  simp only [writeTarget] at h
  simp only [readTarget]
  split at h
  · simp at h
  · next ht =>
    rw [if_neg ht]
    split at h
    · simp at h
    · simpa using h

/-- A masked address lies below 2^19. -/
theorem masked_lt (t : State) (a : Addr) : (a &&& t.mask).toNat < ramSize := by
  have hm : (a &&& t.mask).toNat ≤ t.mask.toNat := by
    rw [BitVec.toNat_and]; exact Nat.and_le_right
  have hk : t.mask.toNat < ramSize := by
    unfold State.mask
    split <;> decide
  exact Nat.lt_of_le_of_lt hm hk

theorem pageMap_lt (c : Params) (w : Paging) (sel : BitVec 3) (a : Addr) : pageMap c w sel a < ramSize :=
  (lookup c.pageMap (defaultPage sel a) (w, sel, a)).isLt

/-- The cells that the decoder reaches exist: below RAM_SIZE and below ROM_SIZE. -/
def Place.inArray : Place → Prop
  | .ram i => i < ramSize
  | .rom i => i < romSize

theorem memPlace_inArray (t : State) (a : Addr) (h : a.toNat < ramSize) : (memPlace t a).inArray := by
  unfold memPlace
  split
  · exact pageMap_lt _ _ _ _
  · split
    · exact pageMap_lt _ _ _ _
    · split
      · exact Nat.lt_of_le_of_lt Nat.and_le_right (by decide)
      · exact h

theorem writeTarget_inArray (t : State) (a : Addr) (p : Place) (h : writeTarget t a = .mem p) : p.inArray := by
  simp only [writeTarget] at h
  split at h
  · simp at h
  · split at h
    · simp at h
    · rw [← WriteTarget.mem.inj h]
      exact memPlace_inArray t _ (masked_lt t a)

/-! ### What a byte read and a byte write change -/

/-- A byte read: one cycle, and at most the host's side. -/
theorem read8_eq (a : Addr) (t : State) :
    read8 a t = (peek t a, { t with cycles := t.cycles - 1, host := (read8 a t).2.host }) := by
  unfold read8 afterRead
  refine Prod.ext rfl ?_
  cases readTarget t a <;> rfl

/-- A byte read of memory: one cycle and nothing else. -/
theorem read8_mem (a : Addr) (t : State) (p : Place) (h : readTarget t a = .mem p) :
    read8 a t = (t.at p, { t with cycles := t.cycles - 1 }) := by
  simp only [read8, peek, afterRead, h]
  rfl

/-- A byte read outside the Tube window leaves the host's side alone. -/
theorem read8_host (a : Addr) (t : State) (p : Place) (h : readTarget t a = .mem p) : (read8 a t).2.host = t.host := by
  rw [read8_mem a t p h]

/-- A byte read depends on what the decoder reads, and keeps everything else, whatever it is. -/
theorem read8_congr (s t : State) (a : Addr) (hb : s.banks = t.banks) (hc : s.cfg = t.cfg) (hm : s.ram = t.ram)
    (ho : s.rom = t.rom) (hh : s.host = t.host) :
    (read8 a s).1 = (read8 a t).1 ∧ (read8 a s).2.host = (read8 a t).2.host := by
  refine ⟨peek_congr s t a hb hc hm ho hh, ?_⟩
  simp only [read8, afterRead, readTarget_congr s t a hb hc]
  cases readTarget t a <;> simp [hh]

@[simp] theorem read8_cycles (a : Addr) (t : State) : (read8 a t).2.cycles = t.cycles - 1 := by
  rw [read8_eq]

@[simp] theorem write8_cycles (a : Addr) (v : Byte) (t : State) : (write8 a v t).cycles = t.cycles - 1 := by
  unfold write8
  split <;> rfl

/-- A byte write that reaches RAM. -/
theorem write8_ram (a : Addr) (v : Byte) (t : State) (i : Nat) (h : writeTarget t a = .mem (.ram i)) :
    write8 a v t = { t with cycles := t.cycles - 1, ram := t.ram.write i v } := by
  simp only [write8, h]
  rfl

/-- A byte write that reaches RAM leaves every other cell; one that does not reach RAM leaves all of it. -/
theorem write8_ram_read (a : Addr) (v : Byte) (t : State) (n : Nat) (h : writeTarget t a ≠ .mem (.ram n)) :
    (write8 a v t).ram.read n = t.ram.read n := by
  unfold write8
  split
  · simp
  · simp
  · next i hi =>
    simp only [setRam_ram]
    refine read_write_other _ _ _ _ fun hin => h ?_
    rw [hi, hin]
  · simp

/-- A byte write changes the latches through the banking-control window alone. -/
theorem write8_banks (a : Addr) (v : Byte) (t : State) (h : ∀ k, writeTarget t a ≠ .bankctl k) :
    (write8 a v t).banks = t.banks := by
  unfold write8
  split
  · simp
  · next k hk => exact absurd hk (h k)
  · simp
  · simp

/-- A byte write changes the yield request through the Tube window alone. -/
theorem write8_yieldReq_eq (a : Addr) (v : Byte) (t : State) (h : ∀ reg, writeTarget t a ≠ .tube reg) :
    (write8 a v t).yieldReq = t.yieldReq := by
  unfold write8
  split
  · next reg hr => exact absurd hr (h reg)
  · simp
  · simp
  · simp

/-- A byte write raises the yield request in the Tube window alone. -/
theorem write8_yieldReq (a : Addr) (v : Byte) (t : State) (h : t.yieldReq = true) :
    (write8 a v t).yieldReq = true := by
  unfold write8
  split <;> simp [h]

/-! ### What an access costs -/

@[simp] theorem debit_cycles (t : State) (n : Nat) : (t.debit n).cycles = t.cycles - n := rfl

theorem memRead_cycles (w : Width) (cls : Wrap) (a : Addr) (t : State) :
    (memRead w cls a t).2.cycles = t.cycles - w.bytes := by
  cases w <;> simp [memRead, Width.bytes]
  omega

theorem memRead24_cycles (cls : Wrap) (a : Addr) (t : State) : (memRead24 cls a t).2.cycles = t.cycles - 3 := by
  simp [memRead24]
  omega

theorem memWrite_cycles (w : Width) (cls : Wrap) (a : Addr) (v : Word) (t : State) :
    (memWrite w cls a v t).cycles = t.cycles - w.bytes := by
  cases w <;> simp [memWrite, Width.bytes]
  omega

theorem readPointer_cycles (bank : Byte) (off : Word) (t : State) :
    (readPointer bank off t).2.cycles = t.cycles - 2 := by
  simp [readPointer]
  omega

@[simp] theorem push8_cycles (v : Byte) (t : State) : (push8 v t).cycles = t.cycles - 1 := by simp [push8]

@[simp] theorem pull8_cycles (t : State) : (pull8 t).2.cycles = t.cycles - 1 := by simp [pull8]

theorem push16_cycles (v : Word) (t : State) : (push16 v t).cycles = t.cycles - 2 := by
  simp [push16]
  omega

theorem pull16_cycles (t : State) : (pull16 t).2.cycles = t.cycles - 2 := by
  simp [pull16]
  omega

/-! ### The fetch -/

/-- A fetched byte: PC moves on, one cycle, and at most the host's side. -/
theorem fetch8_eq (t : State) :
    fetch8 t = (peek t (addr t.pbr t.pc),
      { t with pc := t.pc + 1, cycles := t.cycles - 1, host := (fetch8 t).2.host }) := by
  unfold fetch8
  rw [read8_eq]
  rfl

/-- A fetch of `n` bytes: PC moves past them, `n` cycles, and at most the host's side. -/
theorem fetchBytes_eq (n : Nat) (t : State) :
    (fetchBytes n t).2 =
      { t with pc := t.pc + BitVec.ofNat 16 n, cycles := t.cycles - n, host := (fetchBytes n t).2.host } := by
  induction n generalizing t with
  | zero => apply State.ext_fields <;> simp [fetchBytes]
  | succ n ih =>
    have hr := ih (fetch8 t).2
    have h1 : (fetchBytes (n + 1) t).2 = (fetchBytes n (fetch8 t).2).2 := rfl
    rw [h1, hr, fetch8_eq t]
    apply State.ext_fields <;> simp
    · apply BitVec.eq_of_toNat_eq
      simp
      omega
    · omega

/-- A fetch of `n` bytes gives `n` bytes. -/
@[simp] theorem fetchBytes_length (n : Nat) (t : State) : (fetchBytes n t).1.length = n := by
  induction n generalizing t with
  | zero => rfl
  | succ n ih => simp [fetchBytes, ih]

/-- A fetch of one byte and then of `n` is a fetch of `n + 1`. -/
theorem fetchBytes_succ (n : Nat) (t : State) :
    fetchBytes (n + 1) t =
      ((fetch8 t).1 :: (fetchBytes n (fetch8 t).2).1, (fetchBytes n (fetch8 t).2).2) := rfl

/-! ### The memory arrays keep their canonical form -/

/-- Both arrays are in canonical form and within their sizes. -/
def ArraysOk (ram rom : Memory) : Prop :=
  ram.wf = true ∧ ram.below ramSize = true ∧ rom.wf = true ∧ rom.below romSize = true

/-- A byte write keeps both arrays in canonical form. -/
theorem write8_arrays (a : Addr) (v : Byte) (t : State) (h : ArraysOk t.ram t.rom) :
    ArraysOk (write8 a v t).ram (write8 a v t).rom := by
  unfold write8
  split
  · simpa using h
  · simpa using h
  · next i hi =>
    obtain ⟨h1, h2, h3, h4⟩ := h
    exact ⟨wf_write _ _ _ h1, below_write _ _ _ _ (writeTarget_inArray t a _ hi) h2, h3, h4⟩
  · simpa using h

theorem memWrite_arrays (w : Width) (cls : Wrap) (a : Addr) (v : Word) (t : State) (h : ArraysOk t.ram t.rom) :
    ArraysOk (memWrite w cls a v t).ram (memWrite w cls a v t).rom := by
  cases w
  · exact write8_arrays _ _ _ h
  · exact write8_arrays _ _ _ (write8_arrays _ _ _ h)

theorem push8_arrays (v : Byte) (t : State) (h : ArraysOk t.ram t.rom) :
    ArraysOk (push8 v t).ram (push8 v t).rom := write8_arrays _ _ _ h

theorem push16_arrays (v : Word) (t : State) (h : ArraysOk t.ram t.rom) :
    ArraysOk (push16 v t).ram (push16 v t).rom := push8_arrays _ _ (push8_arrays _ _ h)

end Sys2Proof.Machine
end

