-- ==== Sys2Proof/Laws/PerInstr.lean ====
section
/-! SUPPORT. Laws/PerInstr.lean: the per-instruction family `OperandDecodes`: the form that the opcode map has for an
instruction's own opcode takes the instruction's operand bytes back to the instruction (spec/30_encoding.md R131, R133,
R136). One lemma for each constructor. -/

namespace Sys2Proof.Laws

open Sys2Proof.Machine

/-- An operand of no bytes. -/
theorem op0_back (m8 x8 : Bool) (i : Instr) (rest : List Byte) : decodeForm m8 x8 (.op0 i) ([] ++ rest) = .ok (i, rest) :=
  rfl

/-- An operand of one byte. -/
theorem op1_back (m8 x8 : Bool) (f : Byte → Instr) (b : Byte) (rest : List Byte) :
    decodeForm m8 x8 (.op1 f) ([b] ++ rest) = .ok (f b, rest) := rfl

/-- An operand of two bytes. -/
theorem op2_back (m8 x8 : Bool) (f : Word → Instr) (w : Word) (rest : List Byte) :
    decodeForm m8 x8 (.op2 f) (wordBytes w ++ rest) = .ok (f w, rest) := by
  simp [decodeForm, wordBytes]

/-- An operand of three bytes. -/
theorem op3_back (m8 x8 : Bool) (f : Addr → Instr) (l : Addr) (rest : List Byte) :
    decodeForm m8 x8 (.op3 f) (addrBytes l ++ rest) = .ok (f l, rest) := by
  simp [decodeForm, addrBytes]

/-- The two banks of a block move. -/
theorem blk_back (m8 x8 : Bool) (f : Byte → Byte → Instr) (dst src : Byte) (rest : List Byte) :
    decodeForm m8 x8 (.blk f) ([dst, src] ++ rest) = .ok (f dst src, rest) := rfl

/-- An immediate of the width. -/
theorem imm_back (eight : Bool) (f : Imm → Instr) (v : Imm) (rest : List Byte) (h : v.fits eight = true) :
    decodeImm eight f (v.bytes ++ rest) = .ok (f v, rest) := by
  cases v <;> cases eight <;> simp_all [Imm.fits, decodeImm, Imm.bytes]

namespace OperandDecodes

/-- The operand bytes of an instruction decode, in the form of its own opcode, to the instruction. -/
def Statement (i : Instr) : Prop :=
  ∀ (m8 x8 : Bool) (rest : List Byte), i.wf m8 x8 = true →
    decodeForm m8 x8 (formOf i.opcode) (i.operand ++ rest) = .ok (i, rest)

theorem brk (k : Byte) : Statement (.brk k) :=
  fun m8 x8 rest _ => op1_back m8 x8 .brk k rest

theorem oraDpXInd (d : Byte) : Statement (.oraDpXInd d) :=
  fun m8 x8 rest _ => op1_back m8 x8 .oraDpXInd d rest

theorem cop (k : Byte) : Statement (.cop k) :=
  fun m8 x8 rest _ => op1_back m8 x8 .cop k rest

theorem oraSr (d : Byte) : Statement (.oraSr d) :=
  fun m8 x8 rest _ => op1_back m8 x8 .oraSr d rest

theorem tsbDp (d : Byte) : Statement (.tsbDp d) :=
  fun m8 x8 rest _ => op1_back m8 x8 .tsbDp d rest

theorem oraDp (d : Byte) : Statement (.oraDp d) :=
  fun m8 x8 rest _ => op1_back m8 x8 .oraDp d rest

theorem aslDp (d : Byte) : Statement (.aslDp d) :=
  fun m8 x8 rest _ => op1_back m8 x8 .aslDp d rest

theorem oraDpIndL (d : Byte) : Statement (.oraDpIndL d) :=
  fun m8 x8 rest _ => op1_back m8 x8 .oraDpIndL d rest

theorem php : Statement .php :=
  fun m8 x8 rest _ => op0_back m8 x8 .php rest

theorem oraImm (v : Imm) : Statement (.oraImm v) :=
  fun m8 _ rest h => imm_back m8 .oraImm v rest h

theorem aslAcc : Statement .aslAcc :=
  fun m8 x8 rest _ => op0_back m8 x8 .aslAcc rest

theorem phd : Statement .phd :=
  fun m8 x8 rest _ => op0_back m8 x8 .phd rest

theorem tsbAbs (w : Word) : Statement (.tsbAbs w) :=
  fun m8 x8 rest _ => op2_back m8 x8 .tsbAbs w rest

theorem oraAbs (w : Word) : Statement (.oraAbs w) :=
  fun m8 x8 rest _ => op2_back m8 x8 .oraAbs w rest

theorem aslAbs (w : Word) : Statement (.aslAbs w) :=
  fun m8 x8 rest _ => op2_back m8 x8 .aslAbs w rest

theorem oraAbsL (l : Addr) : Statement (.oraAbsL l) :=
  fun m8 x8 rest _ => op3_back m8 x8 .oraAbsL l rest

theorem bpl (r : Byte) : Statement (.bpl r) :=
  fun m8 x8 rest _ => op1_back m8 x8 .bpl r rest

theorem oraDpIndY (d : Byte) : Statement (.oraDpIndY d) :=
  fun m8 x8 rest _ => op1_back m8 x8 .oraDpIndY d rest

theorem oraDpInd (d : Byte) : Statement (.oraDpInd d) :=
  fun m8 x8 rest _ => op1_back m8 x8 .oraDpInd d rest

theorem oraSrIndY (d : Byte) : Statement (.oraSrIndY d) :=
  fun m8 x8 rest _ => op1_back m8 x8 .oraSrIndY d rest

theorem trbDp (d : Byte) : Statement (.trbDp d) :=
  fun m8 x8 rest _ => op1_back m8 x8 .trbDp d rest

theorem oraDpX (d : Byte) : Statement (.oraDpX d) :=
  fun m8 x8 rest _ => op1_back m8 x8 .oraDpX d rest

theorem aslDpX (d : Byte) : Statement (.aslDpX d) :=
  fun m8 x8 rest _ => op1_back m8 x8 .aslDpX d rest

theorem oraDpIndLY (d : Byte) : Statement (.oraDpIndLY d) :=
  fun m8 x8 rest _ => op1_back m8 x8 .oraDpIndLY d rest

theorem clc : Statement .clc :=
  fun m8 x8 rest _ => op0_back m8 x8 .clc rest

theorem oraAbsY (w : Word) : Statement (.oraAbsY w) :=
  fun m8 x8 rest _ => op2_back m8 x8 .oraAbsY w rest

theorem incAcc : Statement .incAcc :=
  fun m8 x8 rest _ => op0_back m8 x8 .incAcc rest

theorem tcs : Statement .tcs :=
  fun m8 x8 rest _ => op0_back m8 x8 .tcs rest

theorem trbAbs (w : Word) : Statement (.trbAbs w) :=
  fun m8 x8 rest _ => op2_back m8 x8 .trbAbs w rest

theorem oraAbsX (w : Word) : Statement (.oraAbsX w) :=
  fun m8 x8 rest _ => op2_back m8 x8 .oraAbsX w rest

theorem aslAbsX (w : Word) : Statement (.aslAbsX w) :=
  fun m8 x8 rest _ => op2_back m8 x8 .aslAbsX w rest

theorem oraAbsLX (l : Addr) : Statement (.oraAbsLX l) :=
  fun m8 x8 rest _ => op3_back m8 x8 .oraAbsLX l rest

theorem jsrAbs (w : Word) : Statement (.jsrAbs w) :=
  fun m8 x8 rest _ => op2_back m8 x8 .jsrAbs w rest

theorem andDpXInd (d : Byte) : Statement (.andDpXInd d) :=
  fun m8 x8 rest _ => op1_back m8 x8 .andDpXInd d rest

theorem jsl (l : Addr) : Statement (.jsl l) :=
  fun m8 x8 rest _ => op3_back m8 x8 .jsl l rest

theorem andSr (d : Byte) : Statement (.andSr d) :=
  fun m8 x8 rest _ => op1_back m8 x8 .andSr d rest

theorem bitDp (d : Byte) : Statement (.bitDp d) :=
  fun m8 x8 rest _ => op1_back m8 x8 .bitDp d rest

theorem andDp (d : Byte) : Statement (.andDp d) :=
  fun m8 x8 rest _ => op1_back m8 x8 .andDp d rest

theorem rolDp (d : Byte) : Statement (.rolDp d) :=
  fun m8 x8 rest _ => op1_back m8 x8 .rolDp d rest

theorem andDpIndL (d : Byte) : Statement (.andDpIndL d) :=
  fun m8 x8 rest _ => op1_back m8 x8 .andDpIndL d rest

theorem plp : Statement .plp :=
  fun m8 x8 rest _ => op0_back m8 x8 .plp rest

theorem andImm (v : Imm) : Statement (.andImm v) :=
  fun m8 _ rest h => imm_back m8 .andImm v rest h

theorem rolAcc : Statement .rolAcc :=
  fun m8 x8 rest _ => op0_back m8 x8 .rolAcc rest

theorem pld : Statement .pld :=
  fun m8 x8 rest _ => op0_back m8 x8 .pld rest

theorem bitAbs (w : Word) : Statement (.bitAbs w) :=
  fun m8 x8 rest _ => op2_back m8 x8 .bitAbs w rest

theorem andAbs (w : Word) : Statement (.andAbs w) :=
  fun m8 x8 rest _ => op2_back m8 x8 .andAbs w rest

theorem rolAbs (w : Word) : Statement (.rolAbs w) :=
  fun m8 x8 rest _ => op2_back m8 x8 .rolAbs w rest

theorem andAbsL (l : Addr) : Statement (.andAbsL l) :=
  fun m8 x8 rest _ => op3_back m8 x8 .andAbsL l rest

theorem bmi (r : Byte) : Statement (.bmi r) :=
  fun m8 x8 rest _ => op1_back m8 x8 .bmi r rest

theorem andDpIndY (d : Byte) : Statement (.andDpIndY d) :=
  fun m8 x8 rest _ => op1_back m8 x8 .andDpIndY d rest

theorem andDpInd (d : Byte) : Statement (.andDpInd d) :=
  fun m8 x8 rest _ => op1_back m8 x8 .andDpInd d rest

theorem andSrIndY (d : Byte) : Statement (.andSrIndY d) :=
  fun m8 x8 rest _ => op1_back m8 x8 .andSrIndY d rest

theorem bitDpX (d : Byte) : Statement (.bitDpX d) :=
  fun m8 x8 rest _ => op1_back m8 x8 .bitDpX d rest

theorem andDpX (d : Byte) : Statement (.andDpX d) :=
  fun m8 x8 rest _ => op1_back m8 x8 .andDpX d rest

theorem rolDpX (d : Byte) : Statement (.rolDpX d) :=
  fun m8 x8 rest _ => op1_back m8 x8 .rolDpX d rest

theorem andDpIndLY (d : Byte) : Statement (.andDpIndLY d) :=
  fun m8 x8 rest _ => op1_back m8 x8 .andDpIndLY d rest

theorem sec : Statement .sec :=
  fun m8 x8 rest _ => op0_back m8 x8 .sec rest

theorem andAbsY (w : Word) : Statement (.andAbsY w) :=
  fun m8 x8 rest _ => op2_back m8 x8 .andAbsY w rest

theorem decAcc : Statement .decAcc :=
  fun m8 x8 rest _ => op0_back m8 x8 .decAcc rest

theorem tsc : Statement .tsc :=
  fun m8 x8 rest _ => op0_back m8 x8 .tsc rest

theorem bitAbsX (w : Word) : Statement (.bitAbsX w) :=
  fun m8 x8 rest _ => op2_back m8 x8 .bitAbsX w rest

theorem andAbsX (w : Word) : Statement (.andAbsX w) :=
  fun m8 x8 rest _ => op2_back m8 x8 .andAbsX w rest

theorem rolAbsX (w : Word) : Statement (.rolAbsX w) :=
  fun m8 x8 rest _ => op2_back m8 x8 .rolAbsX w rest

theorem andAbsLX (l : Addr) : Statement (.andAbsLX l) :=
  fun m8 x8 rest _ => op3_back m8 x8 .andAbsLX l rest

theorem rti : Statement .rti :=
  fun m8 x8 rest _ => op0_back m8 x8 .rti rest

theorem eorDpXInd (d : Byte) : Statement (.eorDpXInd d) :=
  fun m8 x8 rest _ => op1_back m8 x8 .eorDpXInd d rest

theorem wdm (k : Byte) : Statement (.wdm k) :=
  fun m8 x8 rest _ => op1_back m8 x8 .wdm k rest

theorem eorSr (d : Byte) : Statement (.eorSr d) :=
  fun m8 x8 rest _ => op1_back m8 x8 .eorSr d rest

theorem mvp (dst : Byte) (src : Byte) : Statement (.mvp dst src) :=
  fun m8 x8 rest _ => blk_back m8 x8 .mvp dst src rest

theorem eorDp (d : Byte) : Statement (.eorDp d) :=
  fun m8 x8 rest _ => op1_back m8 x8 .eorDp d rest

theorem lsrDp (d : Byte) : Statement (.lsrDp d) :=
  fun m8 x8 rest _ => op1_back m8 x8 .lsrDp d rest

theorem eorDpIndL (d : Byte) : Statement (.eorDpIndL d) :=
  fun m8 x8 rest _ => op1_back m8 x8 .eorDpIndL d rest

theorem pha : Statement .pha :=
  fun m8 x8 rest _ => op0_back m8 x8 .pha rest

theorem eorImm (v : Imm) : Statement (.eorImm v) :=
  fun m8 _ rest h => imm_back m8 .eorImm v rest h

theorem lsrAcc : Statement .lsrAcc :=
  fun m8 x8 rest _ => op0_back m8 x8 .lsrAcc rest

theorem phk : Statement .phk :=
  fun m8 x8 rest _ => op0_back m8 x8 .phk rest

theorem jmpAbs (w : Word) : Statement (.jmpAbs w) :=
  fun m8 x8 rest _ => op2_back m8 x8 .jmpAbs w rest

theorem eorAbs (w : Word) : Statement (.eorAbs w) :=
  fun m8 x8 rest _ => op2_back m8 x8 .eorAbs w rest

theorem lsrAbs (w : Word) : Statement (.lsrAbs w) :=
  fun m8 x8 rest _ => op2_back m8 x8 .lsrAbs w rest

theorem eorAbsL (l : Addr) : Statement (.eorAbsL l) :=
  fun m8 x8 rest _ => op3_back m8 x8 .eorAbsL l rest

theorem bvc (r : Byte) : Statement (.bvc r) :=
  fun m8 x8 rest _ => op1_back m8 x8 .bvc r rest

theorem eorDpIndY (d : Byte) : Statement (.eorDpIndY d) :=
  fun m8 x8 rest _ => op1_back m8 x8 .eorDpIndY d rest

theorem eorDpInd (d : Byte) : Statement (.eorDpInd d) :=
  fun m8 x8 rest _ => op1_back m8 x8 .eorDpInd d rest

theorem eorSrIndY (d : Byte) : Statement (.eorSrIndY d) :=
  fun m8 x8 rest _ => op1_back m8 x8 .eorSrIndY d rest

theorem mvn (dst : Byte) (src : Byte) : Statement (.mvn dst src) :=
  fun m8 x8 rest _ => blk_back m8 x8 .mvn dst src rest

theorem eorDpX (d : Byte) : Statement (.eorDpX d) :=
  fun m8 x8 rest _ => op1_back m8 x8 .eorDpX d rest

theorem lsrDpX (d : Byte) : Statement (.lsrDpX d) :=
  fun m8 x8 rest _ => op1_back m8 x8 .lsrDpX d rest

theorem eorDpIndLY (d : Byte) : Statement (.eorDpIndLY d) :=
  fun m8 x8 rest _ => op1_back m8 x8 .eorDpIndLY d rest

theorem cli : Statement .cli :=
  fun m8 x8 rest _ => op0_back m8 x8 .cli rest

theorem eorAbsY (w : Word) : Statement (.eorAbsY w) :=
  fun m8 x8 rest _ => op2_back m8 x8 .eorAbsY w rest

theorem phy : Statement .phy :=
  fun m8 x8 rest _ => op0_back m8 x8 .phy rest

theorem tcd : Statement .tcd :=
  fun m8 x8 rest _ => op0_back m8 x8 .tcd rest

theorem jmlLong (l : Addr) : Statement (.jmlLong l) :=
  fun m8 x8 rest _ => op3_back m8 x8 .jmlLong l rest

theorem eorAbsX (w : Word) : Statement (.eorAbsX w) :=
  fun m8 x8 rest _ => op2_back m8 x8 .eorAbsX w rest

theorem lsrAbsX (w : Word) : Statement (.lsrAbsX w) :=
  fun m8 x8 rest _ => op2_back m8 x8 .lsrAbsX w rest

theorem eorAbsLX (l : Addr) : Statement (.eorAbsLX l) :=
  fun m8 x8 rest _ => op3_back m8 x8 .eorAbsLX l rest

theorem rts : Statement .rts :=
  fun m8 x8 rest _ => op0_back m8 x8 .rts rest

theorem adcDpXInd (d : Byte) : Statement (.adcDpXInd d) :=
  fun m8 x8 rest _ => op1_back m8 x8 .adcDpXInd d rest

theorem per (r : Word) : Statement (.per r) :=
  fun m8 x8 rest _ => op2_back m8 x8 .per r rest

theorem adcSr (d : Byte) : Statement (.adcSr d) :=
  fun m8 x8 rest _ => op1_back m8 x8 .adcSr d rest

theorem stzDp (d : Byte) : Statement (.stzDp d) :=
  fun m8 x8 rest _ => op1_back m8 x8 .stzDp d rest

theorem adcDp (d : Byte) : Statement (.adcDp d) :=
  fun m8 x8 rest _ => op1_back m8 x8 .adcDp d rest

theorem rorDp (d : Byte) : Statement (.rorDp d) :=
  fun m8 x8 rest _ => op1_back m8 x8 .rorDp d rest

theorem adcDpIndL (d : Byte) : Statement (.adcDpIndL d) :=
  fun m8 x8 rest _ => op1_back m8 x8 .adcDpIndL d rest

theorem pla : Statement .pla :=
  fun m8 x8 rest _ => op0_back m8 x8 .pla rest

theorem adcImm (v : Imm) : Statement (.adcImm v) :=
  fun m8 _ rest h => imm_back m8 .adcImm v rest h

theorem rorAcc : Statement .rorAcc :=
  fun m8 x8 rest _ => op0_back m8 x8 .rorAcc rest

theorem rtl : Statement .rtl :=
  fun m8 x8 rest _ => op0_back m8 x8 .rtl rest

theorem jmpInd (p : Word) : Statement (.jmpInd p) :=
  fun m8 x8 rest _ => op2_back m8 x8 .jmpInd p rest

theorem adcAbs (w : Word) : Statement (.adcAbs w) :=
  fun m8 x8 rest _ => op2_back m8 x8 .adcAbs w rest

theorem rorAbs (w : Word) : Statement (.rorAbs w) :=
  fun m8 x8 rest _ => op2_back m8 x8 .rorAbs w rest

theorem adcAbsL (l : Addr) : Statement (.adcAbsL l) :=
  fun m8 x8 rest _ => op3_back m8 x8 .adcAbsL l rest

theorem bvs (r : Byte) : Statement (.bvs r) :=
  fun m8 x8 rest _ => op1_back m8 x8 .bvs r rest

theorem adcDpIndY (d : Byte) : Statement (.adcDpIndY d) :=
  fun m8 x8 rest _ => op1_back m8 x8 .adcDpIndY d rest

theorem adcDpInd (d : Byte) : Statement (.adcDpInd d) :=
  fun m8 x8 rest _ => op1_back m8 x8 .adcDpInd d rest

theorem adcSrIndY (d : Byte) : Statement (.adcSrIndY d) :=
  fun m8 x8 rest _ => op1_back m8 x8 .adcSrIndY d rest

theorem stzDpX (d : Byte) : Statement (.stzDpX d) :=
  fun m8 x8 rest _ => op1_back m8 x8 .stzDpX d rest

theorem adcDpX (d : Byte) : Statement (.adcDpX d) :=
  fun m8 x8 rest _ => op1_back m8 x8 .adcDpX d rest

theorem rorDpX (d : Byte) : Statement (.rorDpX d) :=
  fun m8 x8 rest _ => op1_back m8 x8 .rorDpX d rest

theorem adcDpIndLY (d : Byte) : Statement (.adcDpIndLY d) :=
  fun m8 x8 rest _ => op1_back m8 x8 .adcDpIndLY d rest

theorem sei : Statement .sei :=
  fun m8 x8 rest _ => op0_back m8 x8 .sei rest

theorem adcAbsY (w : Word) : Statement (.adcAbsY w) :=
  fun m8 x8 rest _ => op2_back m8 x8 .adcAbsY w rest

theorem ply : Statement .ply :=
  fun m8 x8 rest _ => op0_back m8 x8 .ply rest

theorem tdc : Statement .tdc :=
  fun m8 x8 rest _ => op0_back m8 x8 .tdc rest

theorem jmpXInd (p : Word) : Statement (.jmpXInd p) :=
  fun m8 x8 rest _ => op2_back m8 x8 .jmpXInd p rest

theorem adcAbsX (w : Word) : Statement (.adcAbsX w) :=
  fun m8 x8 rest _ => op2_back m8 x8 .adcAbsX w rest

theorem rorAbsX (w : Word) : Statement (.rorAbsX w) :=
  fun m8 x8 rest _ => op2_back m8 x8 .rorAbsX w rest

theorem adcAbsLX (l : Addr) : Statement (.adcAbsLX l) :=
  fun m8 x8 rest _ => op3_back m8 x8 .adcAbsLX l rest

theorem bra (r : Byte) : Statement (.bra r) :=
  fun m8 x8 rest _ => op1_back m8 x8 .bra r rest

theorem staDpXInd (d : Byte) : Statement (.staDpXInd d) :=
  fun m8 x8 rest _ => op1_back m8 x8 .staDpXInd d rest

theorem brl (r : Word) : Statement (.brl r) :=
  fun m8 x8 rest _ => op2_back m8 x8 .brl r rest

theorem staSr (d : Byte) : Statement (.staSr d) :=
  fun m8 x8 rest _ => op1_back m8 x8 .staSr d rest

theorem styDp (d : Byte) : Statement (.styDp d) :=
  fun m8 x8 rest _ => op1_back m8 x8 .styDp d rest

theorem staDp (d : Byte) : Statement (.staDp d) :=
  fun m8 x8 rest _ => op1_back m8 x8 .staDp d rest

theorem stxDp (d : Byte) : Statement (.stxDp d) :=
  fun m8 x8 rest _ => op1_back m8 x8 .stxDp d rest

theorem staDpIndL (d : Byte) : Statement (.staDpIndL d) :=
  fun m8 x8 rest _ => op1_back m8 x8 .staDpIndL d rest

theorem dey : Statement .dey :=
  fun m8 x8 rest _ => op0_back m8 x8 .dey rest

theorem bitImm (v : Imm) : Statement (.bitImm v) :=
  fun m8 _ rest h => imm_back m8 .bitImm v rest h

theorem txa : Statement .txa :=
  fun m8 x8 rest _ => op0_back m8 x8 .txa rest

theorem phb : Statement .phb :=
  fun m8 x8 rest _ => op0_back m8 x8 .phb rest

theorem styAbs (w : Word) : Statement (.styAbs w) :=
  fun m8 x8 rest _ => op2_back m8 x8 .styAbs w rest

theorem staAbs (w : Word) : Statement (.staAbs w) :=
  fun m8 x8 rest _ => op2_back m8 x8 .staAbs w rest

theorem stxAbs (w : Word) : Statement (.stxAbs w) :=
  fun m8 x8 rest _ => op2_back m8 x8 .stxAbs w rest

theorem staAbsL (l : Addr) : Statement (.staAbsL l) :=
  fun m8 x8 rest _ => op3_back m8 x8 .staAbsL l rest

theorem bcc (r : Byte) : Statement (.bcc r) :=
  fun m8 x8 rest _ => op1_back m8 x8 .bcc r rest

theorem staDpIndY (d : Byte) : Statement (.staDpIndY d) :=
  fun m8 x8 rest _ => op1_back m8 x8 .staDpIndY d rest

theorem staDpInd (d : Byte) : Statement (.staDpInd d) :=
  fun m8 x8 rest _ => op1_back m8 x8 .staDpInd d rest

theorem staSrIndY (d : Byte) : Statement (.staSrIndY d) :=
  fun m8 x8 rest _ => op1_back m8 x8 .staSrIndY d rest

theorem styDpX (d : Byte) : Statement (.styDpX d) :=
  fun m8 x8 rest _ => op1_back m8 x8 .styDpX d rest

theorem staDpX (d : Byte) : Statement (.staDpX d) :=
  fun m8 x8 rest _ => op1_back m8 x8 .staDpX d rest

theorem stxDpY (d : Byte) : Statement (.stxDpY d) :=
  fun m8 x8 rest _ => op1_back m8 x8 .stxDpY d rest

theorem staDpIndLY (d : Byte) : Statement (.staDpIndLY d) :=
  fun m8 x8 rest _ => op1_back m8 x8 .staDpIndLY d rest

theorem tya : Statement .tya :=
  fun m8 x8 rest _ => op0_back m8 x8 .tya rest

theorem staAbsY (w : Word) : Statement (.staAbsY w) :=
  fun m8 x8 rest _ => op2_back m8 x8 .staAbsY w rest

theorem txs : Statement .txs :=
  fun m8 x8 rest _ => op0_back m8 x8 .txs rest

theorem txy : Statement .txy :=
  fun m8 x8 rest _ => op0_back m8 x8 .txy rest

theorem stzAbs (w : Word) : Statement (.stzAbs w) :=
  fun m8 x8 rest _ => op2_back m8 x8 .stzAbs w rest

theorem staAbsX (w : Word) : Statement (.staAbsX w) :=
  fun m8 x8 rest _ => op2_back m8 x8 .staAbsX w rest

theorem stzAbsX (w : Word) : Statement (.stzAbsX w) :=
  fun m8 x8 rest _ => op2_back m8 x8 .stzAbsX w rest

theorem staAbsLX (l : Addr) : Statement (.staAbsLX l) :=
  fun m8 x8 rest _ => op3_back m8 x8 .staAbsLX l rest

theorem ldyImm (v : Imm) : Statement (.ldyImm v) :=
  fun _ x8 rest h => imm_back x8 .ldyImm v rest h

theorem ldaDpXInd (d : Byte) : Statement (.ldaDpXInd d) :=
  fun m8 x8 rest _ => op1_back m8 x8 .ldaDpXInd d rest

theorem ldxImm (v : Imm) : Statement (.ldxImm v) :=
  fun _ x8 rest h => imm_back x8 .ldxImm v rest h

theorem ldaSr (d : Byte) : Statement (.ldaSr d) :=
  fun m8 x8 rest _ => op1_back m8 x8 .ldaSr d rest

theorem ldyDp (d : Byte) : Statement (.ldyDp d) :=
  fun m8 x8 rest _ => op1_back m8 x8 .ldyDp d rest

theorem ldaDp (d : Byte) : Statement (.ldaDp d) :=
  fun m8 x8 rest _ => op1_back m8 x8 .ldaDp d rest

theorem ldxDp (d : Byte) : Statement (.ldxDp d) :=
  fun m8 x8 rest _ => op1_back m8 x8 .ldxDp d rest

theorem ldaDpIndL (d : Byte) : Statement (.ldaDpIndL d) :=
  fun m8 x8 rest _ => op1_back m8 x8 .ldaDpIndL d rest

theorem tay : Statement .tay :=
  fun m8 x8 rest _ => op0_back m8 x8 .tay rest

theorem ldaImm (v : Imm) : Statement (.ldaImm v) :=
  fun m8 _ rest h => imm_back m8 .ldaImm v rest h

theorem tax : Statement .tax :=
  fun m8 x8 rest _ => op0_back m8 x8 .tax rest

theorem plb : Statement .plb :=
  fun m8 x8 rest _ => op0_back m8 x8 .plb rest

theorem ldyAbs (w : Word) : Statement (.ldyAbs w) :=
  fun m8 x8 rest _ => op2_back m8 x8 .ldyAbs w rest

theorem ldaAbs (w : Word) : Statement (.ldaAbs w) :=
  fun m8 x8 rest _ => op2_back m8 x8 .ldaAbs w rest

theorem ldxAbs (w : Word) : Statement (.ldxAbs w) :=
  fun m8 x8 rest _ => op2_back m8 x8 .ldxAbs w rest

theorem ldaAbsL (l : Addr) : Statement (.ldaAbsL l) :=
  fun m8 x8 rest _ => op3_back m8 x8 .ldaAbsL l rest

theorem bcs (r : Byte) : Statement (.bcs r) :=
  fun m8 x8 rest _ => op1_back m8 x8 .bcs r rest

theorem ldaDpIndY (d : Byte) : Statement (.ldaDpIndY d) :=
  fun m8 x8 rest _ => op1_back m8 x8 .ldaDpIndY d rest

theorem ldaDpInd (d : Byte) : Statement (.ldaDpInd d) :=
  fun m8 x8 rest _ => op1_back m8 x8 .ldaDpInd d rest

theorem ldaSrIndY (d : Byte) : Statement (.ldaSrIndY d) :=
  fun m8 x8 rest _ => op1_back m8 x8 .ldaSrIndY d rest

theorem ldyDpX (d : Byte) : Statement (.ldyDpX d) :=
  fun m8 x8 rest _ => op1_back m8 x8 .ldyDpX d rest

theorem ldaDpX (d : Byte) : Statement (.ldaDpX d) :=
  fun m8 x8 rest _ => op1_back m8 x8 .ldaDpX d rest

theorem ldxDpY (d : Byte) : Statement (.ldxDpY d) :=
  fun m8 x8 rest _ => op1_back m8 x8 .ldxDpY d rest

theorem ldaDpIndLY (d : Byte) : Statement (.ldaDpIndLY d) :=
  fun m8 x8 rest _ => op1_back m8 x8 .ldaDpIndLY d rest

theorem clv : Statement .clv :=
  fun m8 x8 rest _ => op0_back m8 x8 .clv rest

theorem ldaAbsY (w : Word) : Statement (.ldaAbsY w) :=
  fun m8 x8 rest _ => op2_back m8 x8 .ldaAbsY w rest

theorem tsx : Statement .tsx :=
  fun m8 x8 rest _ => op0_back m8 x8 .tsx rest

theorem tyx : Statement .tyx :=
  fun m8 x8 rest _ => op0_back m8 x8 .tyx rest

theorem ldyAbsX (w : Word) : Statement (.ldyAbsX w) :=
  fun m8 x8 rest _ => op2_back m8 x8 .ldyAbsX w rest

theorem ldaAbsX (w : Word) : Statement (.ldaAbsX w) :=
  fun m8 x8 rest _ => op2_back m8 x8 .ldaAbsX w rest

theorem ldxAbsY (w : Word) : Statement (.ldxAbsY w) :=
  fun m8 x8 rest _ => op2_back m8 x8 .ldxAbsY w rest

theorem ldaAbsLX (l : Addr) : Statement (.ldaAbsLX l) :=
  fun m8 x8 rest _ => op3_back m8 x8 .ldaAbsLX l rest

theorem cpyImm (v : Imm) : Statement (.cpyImm v) :=
  fun _ x8 rest h => imm_back x8 .cpyImm v rest h

theorem cmpDpXInd (d : Byte) : Statement (.cmpDpXInd d) :=
  fun m8 x8 rest _ => op1_back m8 x8 .cmpDpXInd d rest

theorem rep (k : Byte) : Statement (.rep k) :=
  fun m8 x8 rest _ => op1_back m8 x8 .rep k rest

theorem cmpSr (d : Byte) : Statement (.cmpSr d) :=
  fun m8 x8 rest _ => op1_back m8 x8 .cmpSr d rest

theorem cpyDp (d : Byte) : Statement (.cpyDp d) :=
  fun m8 x8 rest _ => op1_back m8 x8 .cpyDp d rest

theorem cmpDp (d : Byte) : Statement (.cmpDp d) :=
  fun m8 x8 rest _ => op1_back m8 x8 .cmpDp d rest

theorem decDp (d : Byte) : Statement (.decDp d) :=
  fun m8 x8 rest _ => op1_back m8 x8 .decDp d rest

theorem cmpDpIndL (d : Byte) : Statement (.cmpDpIndL d) :=
  fun m8 x8 rest _ => op1_back m8 x8 .cmpDpIndL d rest

theorem iny : Statement .iny :=
  fun m8 x8 rest _ => op0_back m8 x8 .iny rest

theorem cmpImm (v : Imm) : Statement (.cmpImm v) :=
  fun m8 _ rest h => imm_back m8 .cmpImm v rest h

theorem dex : Statement .dex :=
  fun m8 x8 rest _ => op0_back m8 x8 .dex rest

theorem wai : Statement .wai :=
  fun m8 x8 rest _ => op0_back m8 x8 .wai rest

theorem cpyAbs (w : Word) : Statement (.cpyAbs w) :=
  fun m8 x8 rest _ => op2_back m8 x8 .cpyAbs w rest

theorem cmpAbs (w : Word) : Statement (.cmpAbs w) :=
  fun m8 x8 rest _ => op2_back m8 x8 .cmpAbs w rest

theorem decAbs (w : Word) : Statement (.decAbs w) :=
  fun m8 x8 rest _ => op2_back m8 x8 .decAbs w rest

theorem cmpAbsL (l : Addr) : Statement (.cmpAbsL l) :=
  fun m8 x8 rest _ => op3_back m8 x8 .cmpAbsL l rest

theorem bne (r : Byte) : Statement (.bne r) :=
  fun m8 x8 rest _ => op1_back m8 x8 .bne r rest

theorem cmpDpIndY (d : Byte) : Statement (.cmpDpIndY d) :=
  fun m8 x8 rest _ => op1_back m8 x8 .cmpDpIndY d rest

theorem cmpDpInd (d : Byte) : Statement (.cmpDpInd d) :=
  fun m8 x8 rest _ => op1_back m8 x8 .cmpDpInd d rest

theorem cmpSrIndY (d : Byte) : Statement (.cmpSrIndY d) :=
  fun m8 x8 rest _ => op1_back m8 x8 .cmpSrIndY d rest

theorem pei (d : Byte) : Statement (.pei d) :=
  fun m8 x8 rest _ => op1_back m8 x8 .pei d rest

theorem cmpDpX (d : Byte) : Statement (.cmpDpX d) :=
  fun m8 x8 rest _ => op1_back m8 x8 .cmpDpX d rest

theorem decDpX (d : Byte) : Statement (.decDpX d) :=
  fun m8 x8 rest _ => op1_back m8 x8 .decDpX d rest

theorem cmpDpIndLY (d : Byte) : Statement (.cmpDpIndLY d) :=
  fun m8 x8 rest _ => op1_back m8 x8 .cmpDpIndLY d rest

theorem cld : Statement .cld :=
  fun m8 x8 rest _ => op0_back m8 x8 .cld rest

theorem cmpAbsY (w : Word) : Statement (.cmpAbsY w) :=
  fun m8 x8 rest _ => op2_back m8 x8 .cmpAbsY w rest

theorem phx : Statement .phx :=
  fun m8 x8 rest _ => op0_back m8 x8 .phx rest

theorem stp : Statement .stp :=
  fun m8 x8 rest _ => op0_back m8 x8 .stp rest

theorem jmlInd (p : Word) : Statement (.jmlInd p) :=
  fun m8 x8 rest _ => op2_back m8 x8 .jmlInd p rest

theorem cmpAbsX (w : Word) : Statement (.cmpAbsX w) :=
  fun m8 x8 rest _ => op2_back m8 x8 .cmpAbsX w rest

theorem decAbsX (w : Word) : Statement (.decAbsX w) :=
  fun m8 x8 rest _ => op2_back m8 x8 .decAbsX w rest

theorem cmpAbsLX (l : Addr) : Statement (.cmpAbsLX l) :=
  fun m8 x8 rest _ => op3_back m8 x8 .cmpAbsLX l rest

theorem cpxImm (v : Imm) : Statement (.cpxImm v) :=
  fun _ x8 rest h => imm_back x8 .cpxImm v rest h

theorem sbcDpXInd (d : Byte) : Statement (.sbcDpXInd d) :=
  fun m8 x8 rest _ => op1_back m8 x8 .sbcDpXInd d rest

theorem sep (k : Byte) : Statement (.sep k) :=
  fun m8 x8 rest _ => op1_back m8 x8 .sep k rest

theorem sbcSr (d : Byte) : Statement (.sbcSr d) :=
  fun m8 x8 rest _ => op1_back m8 x8 .sbcSr d rest

theorem cpxDp (d : Byte) : Statement (.cpxDp d) :=
  fun m8 x8 rest _ => op1_back m8 x8 .cpxDp d rest

theorem sbcDp (d : Byte) : Statement (.sbcDp d) :=
  fun m8 x8 rest _ => op1_back m8 x8 .sbcDp d rest

theorem incDp (d : Byte) : Statement (.incDp d) :=
  fun m8 x8 rest _ => op1_back m8 x8 .incDp d rest

theorem sbcDpIndL (d : Byte) : Statement (.sbcDpIndL d) :=
  fun m8 x8 rest _ => op1_back m8 x8 .sbcDpIndL d rest

theorem inx : Statement .inx :=
  fun m8 x8 rest _ => op0_back m8 x8 .inx rest

theorem sbcImm (v : Imm) : Statement (.sbcImm v) :=
  fun m8 _ rest h => imm_back m8 .sbcImm v rest h

theorem nop : Statement .nop :=
  fun m8 x8 rest _ => op0_back m8 x8 .nop rest

theorem xba : Statement .xba :=
  fun m8 x8 rest _ => op0_back m8 x8 .xba rest

theorem cpxAbs (w : Word) : Statement (.cpxAbs w) :=
  fun m8 x8 rest _ => op2_back m8 x8 .cpxAbs w rest

theorem sbcAbs (w : Word) : Statement (.sbcAbs w) :=
  fun m8 x8 rest _ => op2_back m8 x8 .sbcAbs w rest

theorem incAbs (w : Word) : Statement (.incAbs w) :=
  fun m8 x8 rest _ => op2_back m8 x8 .incAbs w rest

theorem sbcAbsL (l : Addr) : Statement (.sbcAbsL l) :=
  fun m8 x8 rest _ => op3_back m8 x8 .sbcAbsL l rest

theorem beq (r : Byte) : Statement (.beq r) :=
  fun m8 x8 rest _ => op1_back m8 x8 .beq r rest

theorem sbcDpIndY (d : Byte) : Statement (.sbcDpIndY d) :=
  fun m8 x8 rest _ => op1_back m8 x8 .sbcDpIndY d rest

theorem sbcDpInd (d : Byte) : Statement (.sbcDpInd d) :=
  fun m8 x8 rest _ => op1_back m8 x8 .sbcDpInd d rest

theorem sbcSrIndY (d : Byte) : Statement (.sbcSrIndY d) :=
  fun m8 x8 rest _ => op1_back m8 x8 .sbcSrIndY d rest

theorem pea (w : Word) : Statement (.pea w) :=
  fun m8 x8 rest _ => op2_back m8 x8 .pea w rest

theorem sbcDpX (d : Byte) : Statement (.sbcDpX d) :=
  fun m8 x8 rest _ => op1_back m8 x8 .sbcDpX d rest

theorem incDpX (d : Byte) : Statement (.incDpX d) :=
  fun m8 x8 rest _ => op1_back m8 x8 .incDpX d rest

theorem sbcDpIndLY (d : Byte) : Statement (.sbcDpIndLY d) :=
  fun m8 x8 rest _ => op1_back m8 x8 .sbcDpIndLY d rest

theorem sed : Statement .sed :=
  fun m8 x8 rest _ => op0_back m8 x8 .sed rest

theorem sbcAbsY (w : Word) : Statement (.sbcAbsY w) :=
  fun m8 x8 rest _ => op2_back m8 x8 .sbcAbsY w rest

theorem plx : Statement .plx :=
  fun m8 x8 rest _ => op0_back m8 x8 .plx rest

theorem xce : Statement .xce :=
  fun m8 x8 rest _ => op0_back m8 x8 .xce rest

theorem jsrXInd (p : Word) : Statement (.jsrXInd p) :=
  fun m8 x8 rest _ => op2_back m8 x8 .jsrXInd p rest

theorem sbcAbsX (w : Word) : Statement (.sbcAbsX w) :=
  fun m8 x8 rest _ => op2_back m8 x8 .sbcAbsX w rest

theorem incAbsX (w : Word) : Statement (.incAbsX w) :=
  fun m8 x8 rest _ => op2_back m8 x8 .incAbsX w rest

theorem sbcAbsLX (l : Addr) : Statement (.sbcAbsLX l) :=
  fun m8 x8 rest _ => op3_back m8 x8 .sbcAbsLX l rest

end OperandDecodes

end Sys2Proof.Laws
end

