-- ==== Sys2Proof/Laws/Decoding.lean ====
section
/-! SUPPORT. Laws/Decoding.lean: what the opcode map holds, said once: the form of an opcode makes instructions of that
opcode, whose operand bytes are the form's field (spec/30_encoding.md R131, R136). -/

namespace Sys2Proof.Laws

open Sys2Proof.Machine

/-- A form makes instructions of opcode `op`, with the form's field as their operand, well-formed where the form's
immediate is. -/
def Makes (op : Byte) : Form → Prop
  | .op0 i => i.opcode = op ∧ i.operand = [] ∧ ∀ m8 x8, i.wf m8 x8 = true
  | .op1 f => ∀ b, (f b).opcode = op ∧ (f b).operand = [b] ∧ ∀ m8 x8, (f b).wf m8 x8 = true
  | .op2 f => ∀ w, (f w).opcode = op ∧ (f w).operand = wordBytes w ∧ ∀ m8 x8, (f w).wf m8 x8 = true
  | .op3 f => ∀ l, (f l).opcode = op ∧ (f l).operand = addrBytes l ∧ ∀ m8 x8, (f l).wf m8 x8 = true
  | .blk f => ∀ b c, (f b c).opcode = op ∧ (f b c).operand = [b, c] ∧ ∀ m8 x8, (f b c).wf m8 x8 = true
  | .immM f => ∀ v, (f v).opcode = op ∧ (f v).operand = v.bytes ∧ ∀ m8 x8, (f v).wf m8 x8 = v.fits m8
  | .immX f => ∀ v, (f v).opcode = op ∧ (f v).operand = v.bytes ∧ ∀ m8 x8, (f v).wf m8 x8 = v.fits x8

/-- Row 0x of the opcode map. -/
theorem makes_row0 (k : Fin 16) : Makes (BitVec.ofNat 8 (0x00 + k.val)) (formOf (BitVec.ofNat 8 (0x00 + k.val))) := by
  fin_cases k <;>
    first
    | exact ⟨rfl, rfl, fun _ _ => rfl⟩
    | exact fun _ => ⟨rfl, rfl, fun _ _ => rfl⟩

/-- Row 1x of the opcode map. -/
theorem makes_row1 (k : Fin 16) : Makes (BitVec.ofNat 8 (0x10 + k.val)) (formOf (BitVec.ofNat 8 (0x10 + k.val))) := by
  fin_cases k <;>
    first
    | exact ⟨rfl, rfl, fun _ _ => rfl⟩
    | exact fun _ => ⟨rfl, rfl, fun _ _ => rfl⟩

/-- Row 2x of the opcode map. -/
theorem makes_row2 (k : Fin 16) : Makes (BitVec.ofNat 8 (0x20 + k.val)) (formOf (BitVec.ofNat 8 (0x20 + k.val))) := by
  fin_cases k <;>
    first
    | exact ⟨rfl, rfl, fun _ _ => rfl⟩
    | exact fun _ => ⟨rfl, rfl, fun _ _ => rfl⟩

/-- Row 3x of the opcode map. -/
theorem makes_row3 (k : Fin 16) : Makes (BitVec.ofNat 8 (0x30 + k.val)) (formOf (BitVec.ofNat 8 (0x30 + k.val))) := by
  fin_cases k <;>
    first
    | exact ⟨rfl, rfl, fun _ _ => rfl⟩
    | exact fun _ => ⟨rfl, rfl, fun _ _ => rfl⟩

/-- Row 4x of the opcode map. -/
theorem makes_row4 (k : Fin 16) : Makes (BitVec.ofNat 8 (0x40 + k.val)) (formOf (BitVec.ofNat 8 (0x40 + k.val))) := by
  fin_cases k <;>
    first
    | exact ⟨rfl, rfl, fun _ _ => rfl⟩
    | exact fun _ => ⟨rfl, rfl, fun _ _ => rfl⟩
    | exact fun _ _ => ⟨rfl, rfl, fun _ _ => rfl⟩

/-- Row 5x of the opcode map. -/
theorem makes_row5 (k : Fin 16) : Makes (BitVec.ofNat 8 (0x50 + k.val)) (formOf (BitVec.ofNat 8 (0x50 + k.val))) := by
  fin_cases k <;>
    first
    | exact ⟨rfl, rfl, fun _ _ => rfl⟩
    | exact fun _ => ⟨rfl, rfl, fun _ _ => rfl⟩
    | exact fun _ _ => ⟨rfl, rfl, fun _ _ => rfl⟩

/-- Row 6x of the opcode map. -/
theorem makes_row6 (k : Fin 16) : Makes (BitVec.ofNat 8 (0x60 + k.val)) (formOf (BitVec.ofNat 8 (0x60 + k.val))) := by
  fin_cases k <;>
    first
    | exact ⟨rfl, rfl, fun _ _ => rfl⟩
    | exact fun _ => ⟨rfl, rfl, fun _ _ => rfl⟩

/-- Row 7x of the opcode map. -/
theorem makes_row7 (k : Fin 16) : Makes (BitVec.ofNat 8 (0x70 + k.val)) (formOf (BitVec.ofNat 8 (0x70 + k.val))) := by
  fin_cases k <;>
    first
    | exact ⟨rfl, rfl, fun _ _ => rfl⟩
    | exact fun _ => ⟨rfl, rfl, fun _ _ => rfl⟩

/-- Row 8x of the opcode map. -/
theorem makes_row8 (k : Fin 16) : Makes (BitVec.ofNat 8 (0x80 + k.val)) (formOf (BitVec.ofNat 8 (0x80 + k.val))) := by
  fin_cases k <;>
    first
    | exact ⟨rfl, rfl, fun _ _ => rfl⟩
    | exact fun _ => ⟨rfl, rfl, fun _ _ => rfl⟩

/-- Row 9x of the opcode map. -/
theorem makes_row9 (k : Fin 16) : Makes (BitVec.ofNat 8 (0x90 + k.val)) (formOf (BitVec.ofNat 8 (0x90 + k.val))) := by
  fin_cases k <;>
    first
    | exact ⟨rfl, rfl, fun _ _ => rfl⟩
    | exact fun _ => ⟨rfl, rfl, fun _ _ => rfl⟩

/-- Row Ax of the opcode map. -/
theorem makes_rowA (k : Fin 16) : Makes (BitVec.ofNat 8 (0xA0 + k.val)) (formOf (BitVec.ofNat 8 (0xA0 + k.val))) := by
  fin_cases k <;>
    first
    | exact ⟨rfl, rfl, fun _ _ => rfl⟩
    | exact fun _ => ⟨rfl, rfl, fun _ _ => rfl⟩

/-- Row Bx of the opcode map. -/
theorem makes_rowB (k : Fin 16) : Makes (BitVec.ofNat 8 (0xB0 + k.val)) (formOf (BitVec.ofNat 8 (0xB0 + k.val))) := by
  fin_cases k <;>
    first
    | exact ⟨rfl, rfl, fun _ _ => rfl⟩
    | exact fun _ => ⟨rfl, rfl, fun _ _ => rfl⟩

/-- Row Cx of the opcode map. -/
theorem makes_rowC (k : Fin 16) : Makes (BitVec.ofNat 8 (0xC0 + k.val)) (formOf (BitVec.ofNat 8 (0xC0 + k.val))) := by
  fin_cases k <;>
    first
    | exact ⟨rfl, rfl, fun _ _ => rfl⟩
    | exact fun _ => ⟨rfl, rfl, fun _ _ => rfl⟩

/-- Row Dx of the opcode map. -/
theorem makes_rowD (k : Fin 16) : Makes (BitVec.ofNat 8 (0xD0 + k.val)) (formOf (BitVec.ofNat 8 (0xD0 + k.val))) := by
  fin_cases k <;>
    first
    | exact ⟨rfl, rfl, fun _ _ => rfl⟩
    | exact fun _ => ⟨rfl, rfl, fun _ _ => rfl⟩

/-- Row Ex of the opcode map. -/
theorem makes_rowE (k : Fin 16) : Makes (BitVec.ofNat 8 (0xE0 + k.val)) (formOf (BitVec.ofNat 8 (0xE0 + k.val))) := by
  fin_cases k <;>
    first
    | exact ⟨rfl, rfl, fun _ _ => rfl⟩
    | exact fun _ => ⟨rfl, rfl, fun _ _ => rfl⟩

/-- Row Fx of the opcode map. -/
theorem makes_rowF (k : Fin 16) : Makes (BitVec.ofNat 8 (0xF0 + k.val)) (formOf (BitVec.ofNat 8 (0xF0 + k.val))) := by
  fin_cases k <;>
    first
    | exact ⟨rfl, rfl, fun _ _ => rfl⟩
    | exact fun _ => ⟨rfl, rfl, fun _ _ => rfl⟩

/-- The form of every opcode makes instructions of that opcode. -/
theorem formOf_makes (op : Byte) : Makes op (formOf op) := by
  have hlt := op.isLt
  have hk : op.toNat % 16 < 16 := Nat.mod_lt _ (by decide)
  have hrow : op.toNat / 16 < 16 := by omega
  have hop : op = BitVec.ofNat 8 (16 * (op.toNat / 16) + op.toNat % 16) :=
    BitVec.eq_of_toNat_eq (by rw [BitVec.toNat_ofNat]; omega)
  rw [hop]
  generalize op.toNat % 16 = k at hk
  generalize op.toNat / 16 = row at hrow
  interval_cases row
  · exact makes_row0 ⟨k, hk⟩
  · exact makes_row1 ⟨k, hk⟩
  · exact makes_row2 ⟨k, hk⟩
  · exact makes_row3 ⟨k, hk⟩
  · exact makes_row4 ⟨k, hk⟩
  · exact makes_row5 ⟨k, hk⟩
  · exact makes_row6 ⟨k, hk⟩
  · exact makes_row7 ⟨k, hk⟩
  · exact makes_row8 ⟨k, hk⟩
  · exact makes_row9 ⟨k, hk⟩
  · exact makes_rowA ⟨k, hk⟩
  · exact makes_rowB ⟨k, hk⟩
  · exact makes_rowC ⟨k, hk⟩
  · exact makes_rowD ⟨k, hk⟩
  · exact makes_rowE ⟨k, hk⟩
  · exact makes_rowF ⟨k, hk⟩

/-- The instructions that a form makes. -/
def MadeBy (i : Instr) : Form → Prop
  | .op0 j => i = j
  | .op1 f => ∃ b, i = f b
  | .op2 f => ∃ w, i = f w
  | .op3 f => ∃ l, i = f l
  | .blk f => ∃ b c, i = f b c
  | .immM f => ∃ v, i = f v
  | .immX f => ∃ v, i = f v

/-- What a form decodes is an instruction that it makes, with its operand bytes in front of the rest. -/
theorem decodeForm_madeBy (m8 x8 : Bool) (form : Form) (bytes rest : List Byte) (i : Instr)
    (h : decodeForm m8 x8 form bytes = .ok (i, rest)) : MadeBy i form := by
  cases form <;> simp only [decodeForm, decodeImm] at h
  case op0 => exact (congrArg Prod.fst (Except.ok.inj h)).symm
  all_goals
    split at h <;>
      first
      | (cases h; done)
      | (injection h with h; injection h with h1 h2; subst h1; simp [MadeBy])

end Sys2Proof.Laws
end

