-- ==== Sys2Proof/Laws/Params.lean ====
section
/-! SUPPORT. Laws/Params.lean: the two function-valued parameters of spec/00_scope.md R8. A table in the state can be any
function, and with no table the parameter is the spec's default. -/

namespace Sys2Proof.Machine

@[simp] theorem lookup_nil {κ τ : Type} [DecidableEq κ] (d : τ) (k : κ) : lookup [] d k = d := rfl

/-- A table that lists the value of `f` at every argument in `keys` answers `f` there. -/
theorem lookup_map {κ τ : Type} [DecidableEq κ] (keys : List κ) (f : κ → τ) (d : τ) (k : κ) (h : k ∈ keys) :
    lookup (keys.map fun x => (x, f x)) d k = f k := by
  induction keys with
  | nil => cases h
  | cons x rest ih =>
    simp only [List.map_cons, lookup]
    split
    · next hx => rw [hx]
    · next hx => exact ih ((List.mem_cons.mp h).resolve_left fun e => hx e.symm)

/-- Every bit vector of a width, as a list. -/
@[irreducible] def allBits (n : Nat) : List (BitVec n) := (List.finRange (2 ^ n)).map BitVec.ofFin

theorem mem_allBits (n : Nat) (v : BitVec n) : v ∈ allBits n := by
  unfold allBits
  exact List.mem_map.mpr ⟨v.toFin, List.mem_finRange _, rfl⟩

/-- The arguments of PAGE_MAP. -/
def pageKeys : List (Paging × BitVec 3 × Addr) := [.low, .high] ×ˢ allBits 3 ×ˢ allBits 24

theorem mem_pageKeys (w : Paging) (sel : BitVec 3) (a : Addr) : (w, sel, a) ∈ pageKeys := by
  unfold pageKeys
  simp only [List.mem_product]
  exact ⟨by cases w <;> simp, mem_allBits 3 sel, mem_allBits 24 a⟩

/-- Every latch value. -/
def allLatches : List Latches :=
  ([false, true] ×ˢ allBits 4 ×ˢ allBits 4 ×ˢ allBits 6).map fun p => ⟨p.1, p.2.1, p.2.2.1, p.2.2.2⟩

theorem mem_allLatches (l : Latches) : l ∈ allLatches := by
  refine List.mem_map.mpr ⟨(l.defMode, l.divider, l.banking, l.banknum), ?_, rfl⟩
  simp only [List.mem_product]
  exact ⟨by cases l.defMode <;> simp, mem_allBits 4 _, mem_allBits 4 _, mem_allBits 6 _⟩

/-- The arguments of BANKCTL_WRITE, with the latches before the write. -/
def bankctlKeys : List (BitVec 3 × Byte × Latches) := allBits 3 ×ˢ allBits 8 ×ˢ allLatches

theorem mem_bankctlKeys (k : BitVec 3) (v : Byte) (l : Latches) : (k, v, l) ∈ bankctlKeys := by
  unfold bankctlKeys
  simp only [List.mem_product]
  exact ⟨mem_allBits 3 k, mem_allBits 8 v, mem_allLatches l⟩

/-- PAGE_MAP can be any function into RAM: some value of the parameter is it. -/
theorem pageMap_any (c : Params) (f : Paging → BitVec 3 → Addr → BitVec 19) :
    ∃ table, ∀ w sel a, pageMap { c with pageMap := table } w sel a = (f w sel a).toNat := by
  refine ⟨pageKeys.map fun x => (x, f x.1 x.2.1 x.2.2), fun w sel a => ?_⟩
  exact congrArg BitVec.toNat (lookup_map pageKeys (fun x => f x.1 x.2.1 x.2.2) _ _ (mem_pageKeys w sel a))

/-- BANKCTL_WRITE can be any function of the register, the byte and the latches: some value of the parameter is it. -/
theorem bankctlWrite_any (c : Params) (f : BitVec 3 → Byte → Latches → Latches) :
    ∃ table, ∀ k v l, bankctlWrite { c with bankctl := table } k v l = f k v l := by
  refine ⟨bankctlKeys.map fun x => (x, f x.1 x.2.1 x.2.2), fun k v l => ?_⟩
  exact lookup_map bankctlKeys (fun x => f x.1 x.2.1 x.2.2) _ _ (mem_bankctlKeys k v l)

end Sys2Proof.Machine
end

