-- ==== Sys2Proof/Tests/Slice0.lean ====
section
/-! SUPPORT. Tests/Slice0.lean: the author's own tests. Every expected value is taken from the spec: the opcode map of
spec/30_encoding.md R136, the vectors of spec/95_test_vectors.md, or the address map of spec/20_memory.md R101. The last
part holds, for every statement with hypotheses, a concrete state and operands that meet them all. -/

namespace Sys2Proof.Tests

open Sys2Proof Sys2Proof.Machine Sys2Proof.Claims

/-! ### Well-formedness: an immediate of the other width is refused -/

/-- The immediate instructions whose width is M8 (30_encoding.md R132). -/
def immM (v : Imm) : List Instr :=
  [.oraImm v, .andImm v, .eorImm v, .adcImm v, .bitImm v, .ldaImm v, .cmpImm v, .sbcImm v]

/-- The immediate instructions whose width is X8 (30_encoding.md R132). -/
def immX (v : Imm) : List Instr := [.ldyImm v, .ldxImm v, .cpyImm v, .cpxImm v]

theorem test_wf_refuses_wide_m : ∀ i ∈ immM (.word 0x1234), i.wf true true = false ∧ i.wf true false = false := by
  decide

theorem test_wf_refuses_narrow_m : ∀ i ∈ immM (.byte 0x12), i.wf false true = false ∧ i.wf false false = false := by
  decide

theorem test_wf_refuses_wide_x : ∀ i ∈ immX (.word 0x1234), i.wf true true = false ∧ i.wf false true = false := by
  decide

theorem test_wf_refuses_narrow_x : ∀ i ∈ immX (.byte 0x12), i.wf true false = false ∧ i.wf false false = false := by
  decide

theorem test_wf_takes_the_right_width :
    (∀ i ∈ immM (.byte 0x12), i.wf true false = true) ∧
    (∀ i ∈ immM (.word 0x1234), i.wf false true = true) ∧
    (∀ i ∈ immX (.byte 0x12), i.wf false true = true) ∧
    ∀ i ∈ immX (.word 0x1234), i.wf true false = true := by decide

/-! ### Decoding: the opcode map of R136, row by row, with operand bytes 01 02 03 and 8-bit immediates -/

/-- The opcode byte `op` and the operand bytes 01 02 03 decode to `i`, which leaves `3 - n` of them. -/
def reads (op : Byte) (i : Instr) (n : Nat) : Bool :=
  match decode true true [op, 0x01, 0x02, 0x03] with
  | .ok r => decide (r.1 = i) && decide (r.2 = ([0x01, 0x02, 0x03] : List Byte).drop n)
  | .error _ => false

theorem test_decode_row_0x : (
    reads 0x00 (.brk 0x01) 1 && reads 0x01 (.oraDpXInd 0x01) 1 && reads 0x02 (.cop 0x01) 1 &&
    reads 0x03 (.oraSr 0x01) 1 && reads 0x04 (.tsbDp 0x01) 1 && reads 0x05 (.oraDp 0x01) 1 &&
    reads 0x06 (.aslDp 0x01) 1 && reads 0x07 (.oraDpIndL 0x01) 1 && reads 0x08 .php 0 &&
    reads 0x09 (.oraImm (.byte 0x01)) 1 && reads 0x0A .aslAcc 0 && reads 0x0B .phd 0 &&
    reads 0x0C (.tsbAbs 0x0201) 2 && reads 0x0D (.oraAbs 0x0201) 2 && reads 0x0E (.aslAbs 0x0201) 2 &&
    reads 0x0F (.oraAbsL 0x030201) 3) = true := by decide

theorem test_decode_row_1x : (
    reads 0x10 (.bpl 0x01) 1 && reads 0x11 (.oraDpIndY 0x01) 1 && reads 0x12 (.oraDpInd 0x01) 1 &&
    reads 0x13 (.oraSrIndY 0x01) 1 && reads 0x14 (.trbDp 0x01) 1 && reads 0x15 (.oraDpX 0x01) 1 &&
    reads 0x16 (.aslDpX 0x01) 1 && reads 0x17 (.oraDpIndLY 0x01) 1 && reads 0x18 .clc 0 &&
    reads 0x19 (.oraAbsY 0x0201) 2 && reads 0x1A .incAcc 0 && reads 0x1B .tcs 0 && reads 0x1C (.trbAbs 0x0201) 2 &&
    reads 0x1D (.oraAbsX 0x0201) 2 && reads 0x1E (.aslAbsX 0x0201) 2 && reads 0x1F (.oraAbsLX 0x030201) 3) = true := by
  decide

theorem test_decode_row_2x : (
    reads 0x20 (.jsrAbs 0x0201) 2 && reads 0x21 (.andDpXInd 0x01) 1 && reads 0x22 (.jsl 0x030201) 3 &&
    reads 0x23 (.andSr 0x01) 1 && reads 0x24 (.bitDp 0x01) 1 && reads 0x25 (.andDp 0x01) 1 &&
    reads 0x26 (.rolDp 0x01) 1 && reads 0x27 (.andDpIndL 0x01) 1 && reads 0x28 .plp 0 &&
    reads 0x29 (.andImm (.byte 0x01)) 1 && reads 0x2A .rolAcc 0 && reads 0x2B .pld 0 &&
    reads 0x2C (.bitAbs 0x0201) 2 && reads 0x2D (.andAbs 0x0201) 2 && reads 0x2E (.rolAbs 0x0201) 2 &&
    reads 0x2F (.andAbsL 0x030201) 3) = true := by decide

theorem test_decode_row_3x : (
    reads 0x30 (.bmi 0x01) 1 && reads 0x31 (.andDpIndY 0x01) 1 && reads 0x32 (.andDpInd 0x01) 1 &&
    reads 0x33 (.andSrIndY 0x01) 1 && reads 0x34 (.bitDpX 0x01) 1 && reads 0x35 (.andDpX 0x01) 1 &&
    reads 0x36 (.rolDpX 0x01) 1 && reads 0x37 (.andDpIndLY 0x01) 1 && reads 0x38 .sec 0 &&
    reads 0x39 (.andAbsY 0x0201) 2 && reads 0x3A .decAcc 0 && reads 0x3B .tsc 0 &&
    reads 0x3C (.bitAbsX 0x0201) 2 && reads 0x3D (.andAbsX 0x0201) 2 && reads 0x3E (.rolAbsX 0x0201) 2 &&
    reads 0x3F (.andAbsLX 0x030201) 3) = true := by decide

theorem test_decode_row_4x : (
    reads 0x40 .rti 0 && reads 0x41 (.eorDpXInd 0x01) 1 && reads 0x42 (.wdm 0x01) 1 &&
    reads 0x43 (.eorSr 0x01) 1 && reads 0x44 (.mvp 0x01 0x02) 2 && reads 0x45 (.eorDp 0x01) 1 &&
    reads 0x46 (.lsrDp 0x01) 1 && reads 0x47 (.eorDpIndL 0x01) 1 && reads 0x48 .pha 0 &&
    reads 0x49 (.eorImm (.byte 0x01)) 1 && reads 0x4A .lsrAcc 0 && reads 0x4B .phk 0 &&
    reads 0x4C (.jmpAbs 0x0201) 2 && reads 0x4D (.eorAbs 0x0201) 2 && reads 0x4E (.lsrAbs 0x0201) 2 &&
    reads 0x4F (.eorAbsL 0x030201) 3) = true := by decide

theorem test_decode_row_5x : (
    reads 0x50 (.bvc 0x01) 1 && reads 0x51 (.eorDpIndY 0x01) 1 && reads 0x52 (.eorDpInd 0x01) 1 &&
    reads 0x53 (.eorSrIndY 0x01) 1 && reads 0x54 (.mvn 0x01 0x02) 2 && reads 0x55 (.eorDpX 0x01) 1 &&
    reads 0x56 (.lsrDpX 0x01) 1 && reads 0x57 (.eorDpIndLY 0x01) 1 && reads 0x58 .cli 0 &&
    reads 0x59 (.eorAbsY 0x0201) 2 && reads 0x5A .phy 0 && reads 0x5B .tcd 0 && reads 0x5C (.jmlLong 0x030201) 3 &&
    reads 0x5D (.eorAbsX 0x0201) 2 && reads 0x5E (.lsrAbsX 0x0201) 2 && reads 0x5F (.eorAbsLX 0x030201) 3) = true := by
  decide

theorem test_decode_row_6x : (
    reads 0x60 .rts 0 && reads 0x61 (.adcDpXInd 0x01) 1 && reads 0x62 (.per 0x0201) 2 &&
    reads 0x63 (.adcSr 0x01) 1 && reads 0x64 (.stzDp 0x01) 1 && reads 0x65 (.adcDp 0x01) 1 &&
    reads 0x66 (.rorDp 0x01) 1 && reads 0x67 (.adcDpIndL 0x01) 1 && reads 0x68 .pla 0 &&
    reads 0x69 (.adcImm (.byte 0x01)) 1 && reads 0x6A .rorAcc 0 && reads 0x6B .rtl 0 &&
    reads 0x6C (.jmpInd 0x0201) 2 && reads 0x6D (.adcAbs 0x0201) 2 && reads 0x6E (.rorAbs 0x0201) 2 &&
    reads 0x6F (.adcAbsL 0x030201) 3) = true := by decide

theorem test_decode_row_7x : (
    reads 0x70 (.bvs 0x01) 1 && reads 0x71 (.adcDpIndY 0x01) 1 && reads 0x72 (.adcDpInd 0x01) 1 &&
    reads 0x73 (.adcSrIndY 0x01) 1 && reads 0x74 (.stzDpX 0x01) 1 && reads 0x75 (.adcDpX 0x01) 1 &&
    reads 0x76 (.rorDpX 0x01) 1 && reads 0x77 (.adcDpIndLY 0x01) 1 && reads 0x78 .sei 0 &&
    reads 0x79 (.adcAbsY 0x0201) 2 && reads 0x7A .ply 0 && reads 0x7B .tdc 0 && reads 0x7C (.jmpXInd 0x0201) 2 &&
    reads 0x7D (.adcAbsX 0x0201) 2 && reads 0x7E (.rorAbsX 0x0201) 2 && reads 0x7F (.adcAbsLX 0x030201) 3) = true := by
  decide

theorem test_decode_row_8x : (
    reads 0x80 (.bra 0x01) 1 && reads 0x81 (.staDpXInd 0x01) 1 && reads 0x82 (.brl 0x0201) 2 &&
    reads 0x83 (.staSr 0x01) 1 && reads 0x84 (.styDp 0x01) 1 && reads 0x85 (.staDp 0x01) 1 &&
    reads 0x86 (.stxDp 0x01) 1 && reads 0x87 (.staDpIndL 0x01) 1 && reads 0x88 .dey 0 &&
    reads 0x89 (.bitImm (.byte 0x01)) 1 && reads 0x8A .txa 0 && reads 0x8B .phb 0 &&
    reads 0x8C (.styAbs 0x0201) 2 && reads 0x8D (.staAbs 0x0201) 2 && reads 0x8E (.stxAbs 0x0201) 2 &&
    reads 0x8F (.staAbsL 0x030201) 3) = true := by decide

theorem test_decode_row_9x : (
    reads 0x90 (.bcc 0x01) 1 && reads 0x91 (.staDpIndY 0x01) 1 && reads 0x92 (.staDpInd 0x01) 1 &&
    reads 0x93 (.staSrIndY 0x01) 1 && reads 0x94 (.styDpX 0x01) 1 && reads 0x95 (.staDpX 0x01) 1 &&
    reads 0x96 (.stxDpY 0x01) 1 && reads 0x97 (.staDpIndLY 0x01) 1 && reads 0x98 .tya 0 &&
    reads 0x99 (.staAbsY 0x0201) 2 && reads 0x9A .txs 0 && reads 0x9B .txy 0 && reads 0x9C (.stzAbs 0x0201) 2 &&
    reads 0x9D (.staAbsX 0x0201) 2 && reads 0x9E (.stzAbsX 0x0201) 2 && reads 0x9F (.staAbsLX 0x030201) 3) = true := by
  decide

theorem test_decode_row_Ax : (
    reads 0xA0 (.ldyImm (.byte 0x01)) 1 && reads 0xA1 (.ldaDpXInd 0x01) 1 && reads 0xA2 (.ldxImm (.byte 0x01)) 1 &&
    reads 0xA3 (.ldaSr 0x01) 1 && reads 0xA4 (.ldyDp 0x01) 1 && reads 0xA5 (.ldaDp 0x01) 1 &&
    reads 0xA6 (.ldxDp 0x01) 1 && reads 0xA7 (.ldaDpIndL 0x01) 1 && reads 0xA8 .tay 0 &&
    reads 0xA9 (.ldaImm (.byte 0x01)) 1 && reads 0xAA .tax 0 && reads 0xAB .plb 0 &&
    reads 0xAC (.ldyAbs 0x0201) 2 && reads 0xAD (.ldaAbs 0x0201) 2 && reads 0xAE (.ldxAbs 0x0201) 2 &&
    reads 0xAF (.ldaAbsL 0x030201) 3) = true := by decide

theorem test_decode_row_Bx : (
    reads 0xB0 (.bcs 0x01) 1 && reads 0xB1 (.ldaDpIndY 0x01) 1 && reads 0xB2 (.ldaDpInd 0x01) 1 &&
    reads 0xB3 (.ldaSrIndY 0x01) 1 && reads 0xB4 (.ldyDpX 0x01) 1 && reads 0xB5 (.ldaDpX 0x01) 1 &&
    reads 0xB6 (.ldxDpY 0x01) 1 && reads 0xB7 (.ldaDpIndLY 0x01) 1 && reads 0xB8 .clv 0 &&
    reads 0xB9 (.ldaAbsY 0x0201) 2 && reads 0xBA .tsx 0 && reads 0xBB .tyx 0 && reads 0xBC (.ldyAbsX 0x0201) 2 &&
    reads 0xBD (.ldaAbsX 0x0201) 2 && reads 0xBE (.ldxAbsY 0x0201) 2 && reads 0xBF (.ldaAbsLX 0x030201) 3) = true := by
  decide

theorem test_decode_row_Cx : (
    reads 0xC0 (.cpyImm (.byte 0x01)) 1 && reads 0xC1 (.cmpDpXInd 0x01) 1 && reads 0xC2 (.rep 0x01) 1 &&
    reads 0xC3 (.cmpSr 0x01) 1 && reads 0xC4 (.cpyDp 0x01) 1 && reads 0xC5 (.cmpDp 0x01) 1 &&
    reads 0xC6 (.decDp 0x01) 1 && reads 0xC7 (.cmpDpIndL 0x01) 1 && reads 0xC8 .iny 0 &&
    reads 0xC9 (.cmpImm (.byte 0x01)) 1 && reads 0xCA .dex 0 && reads 0xCB .wai 0 &&
    reads 0xCC (.cpyAbs 0x0201) 2 && reads 0xCD (.cmpAbs 0x0201) 2 && reads 0xCE (.decAbs 0x0201) 2 &&
    reads 0xCF (.cmpAbsL 0x030201) 3) = true := by decide

theorem test_decode_row_Dx : (
    reads 0xD0 (.bne 0x01) 1 && reads 0xD1 (.cmpDpIndY 0x01) 1 && reads 0xD2 (.cmpDpInd 0x01) 1 &&
    reads 0xD3 (.cmpSrIndY 0x01) 1 && reads 0xD4 (.pei 0x01) 1 && reads 0xD5 (.cmpDpX 0x01) 1 &&
    reads 0xD6 (.decDpX 0x01) 1 && reads 0xD7 (.cmpDpIndLY 0x01) 1 && reads 0xD8 .cld 0 &&
    reads 0xD9 (.cmpAbsY 0x0201) 2 && reads 0xDA .phx 0 && reads 0xDB .stp 0 && reads 0xDC (.jmlInd 0x0201) 2 &&
    reads 0xDD (.cmpAbsX 0x0201) 2 && reads 0xDE (.decAbsX 0x0201) 2 && reads 0xDF (.cmpAbsLX 0x030201) 3) = true := by
  decide

theorem test_decode_row_Ex : (
    reads 0xE0 (.cpxImm (.byte 0x01)) 1 && reads 0xE1 (.sbcDpXInd 0x01) 1 && reads 0xE2 (.sep 0x01) 1 &&
    reads 0xE3 (.sbcSr 0x01) 1 && reads 0xE4 (.cpxDp 0x01) 1 && reads 0xE5 (.sbcDp 0x01) 1 &&
    reads 0xE6 (.incDp 0x01) 1 && reads 0xE7 (.sbcDpIndL 0x01) 1 && reads 0xE8 .inx 0 &&
    reads 0xE9 (.sbcImm (.byte 0x01)) 1 && reads 0xEA .nop 0 && reads 0xEB .xba 0 &&
    reads 0xEC (.cpxAbs 0x0201) 2 && reads 0xED (.sbcAbs 0x0201) 2 && reads 0xEE (.incAbs 0x0201) 2 &&
    reads 0xEF (.sbcAbsL 0x030201) 3) = true := by decide

theorem test_decode_row_Fx : (
    reads 0xF0 (.beq 0x01) 1 && reads 0xF1 (.sbcDpIndY 0x01) 1 && reads 0xF2 (.sbcDpInd 0x01) 1 &&
    reads 0xF3 (.sbcSrIndY 0x01) 1 && reads 0xF4 (.pea 0x0201) 2 && reads 0xF5 (.sbcDpX 0x01) 1 &&
    reads 0xF6 (.incDpX 0x01) 1 && reads 0xF7 (.sbcDpIndLY 0x01) 1 && reads 0xF8 .sed 0 &&
    reads 0xF9 (.sbcAbsY 0x0201) 2 && reads 0xFA .plx 0 && reads 0xFB .xce 0 && reads 0xFC (.jsrXInd 0x0201) 2 &&
    reads 0xFD (.sbcAbsX 0x0201) 2 && reads 0xFE (.incAbsX 0x0201) 2 && reads 0xFF (.sbcAbsLX 0x030201) 3) = true := by
  decide

/-- The words of the immediate forms in the other width, and of a long form, bit by bit from R131 and R133. -/
theorem test_decode_widths :
    decode false true [0x69, 0x34, 0x12] = .ok (.adcImm (.word 0x1234), []) ∧
    decode false true [0xA2, 0x34, 0x12] = .ok (.ldxImm (.byte 0x34), [0x12]) ∧
    decode true false [0xA0, 0x34, 0x12] = .ok (.ldyImm (.word 0x1234), []) ∧
    decode true false [0xA9, 0x34, 0x12] = .ok (.ldaImm (.byte 0x34), [0x12]) := by decide

/-- Too few bytes are refused by name. -/
theorem test_decode_refuses_truncated :
    decode true true [] = .error .noOpcode ∧ decode true true [0x22, 0x00, 0x00] = .error .operandMissing := by decide

/-! ### One step on a small state: vectors of spec/95_test_vectors.md, each named after its row there -/

/-- Byte values at consecutive indexes from `at_`. -/
def bytesAt (at_ : Nat) (bytes : List Byte) (m : Memory) : Memory :=
  match bytes with
  | [] => m
  | b :: rest => bytesAt (at_ + 1) rest (m.write at_ b)

/-- The start state of the vectors: the reset state with PC at 8000H. -/
def emul : State := { State.reset with pc := 0x8000 }

/-- The same in native mode, with m = ex = 1. -/
def native : State := { emul with e := false }

/-- The same in extended memory mode, with the given banking latches. -/
def extended (banking : BitVec 4) (banknum : BitVec 6) : State :=
  { native with banks := { defMode := false, divider := 0, banking := banking, banknum := banknum } }

/-- The state with code in ROM at 8000H. -/
def code (bytes : List Byte) (t : State) : State := { t with rom := bytesAt 0 bytes t.rom }

/-- The state with code in RAM at PC. -/
def codeRam (bytes : List Byte) (t : State) : State := { t with ram := bytesAt t.pc.toNat bytes t.ram }

/-- One execution of the instruction at PC, without the boundary. -/
def run (t : State) : State :=
  match runInstr t with
  | .next u => u
  | .fault _ => t
  | .refused _ => t

/-- One whole step. -/
def stepped (t : State) : State :=
  match step t with
  | .next u => u
  | .fault _ => t
  | .refused _ => t

/-- `XCE` (47_flags_mode_system.md rule R392). -/
theorem test_xce_FM6 :
    let t := run (code [0xFB] { native with
      x := 0x5678, y := 0x9ABC, s := 0x1234, p := { emul.p with c := true, m := false, ex := false } })
    t.x = 0x0078 ∧ t.y = 0x00BC ∧ t.s = 0x0134 ∧ t.p.c = false := by decide

/-- `XCE` (47_flags_mode_system.md rule R392). -/
theorem test_xce_FM4 :
    let t := run (code [0xFB] { emul with p := { emul.p with m := false, ex := false } })
    t.p.m = true ∧ t.p.ex = true ∧ t.p.c = true ∧ t.e = false := by decide

/-- `LDA ($FF),Y` (40_addressing.md rule R176). -/
theorem test_lda_AD3 :
    let t := run (code [0xB1, 0xFF] { emul with
      ram := bytesAt 0x1234 [0x99] (bytesAt 0x100 [0x56] (bytesAt 0x0 [0x12] (bytesAt 0xFF [0x34] []))) })
    t.a = 0x0099 ∧ t.p.n = true := by decide

/-- `LDA ($FF),Y` (40_addressing.md rule R176). -/
theorem test_lda_AD4 :
    let t := run (code [0xB1, 0xFF] { native with
      ram := bytesAt 0x5634 [0x88] (bytesAt 0x1234 [0x99] (bytesAt 0x100 [0x56]
        (bytesAt 0x0 [0x12] (bytesAt 0xFF [0x34] [])))) })
    t.a = 0x0088 ∧ t.p.n = true := by decide

/-- `STA $4123` (20_memory.md rule R88). -/
theorem test_sta_MM6 :
    let t := run (code [0x8D, 0x23, 0x41] { (extended 5 3) with e := true, a := 0xAB })
    t.ram.read 0xC123 = 0xAB := by decide

/-- `NOP` (60_exceptions.md rule R510). -/
theorem test_nop_IN1 :
    let t := stepped (code [0xEA] { emul with
      p := { emul.p with i := false }, lines := { emul.lines with irq := true },
      rom := bytesAt 0x7FFE [0x00, 0xA0] [] })
    t.pc = 0xA000 ∧ t.s = 0x01FC ∧ t.p.i = true ∧ t.ram.read 0x1FD = 0x20 := by decide

/-- `MVN $00,$00` (42_transfer_blockmove.md rule R233). -/
theorem test_mvn_IN10 :
    let t := stepped (code [0x54, 0x00, 0x00] { native with
      a := 0x1, x := 0x1000, y := 0x2000, p := { emul.p with i := false, ex := false },
      lines := { emul.lines with irq := true },
      ram := bytesAt 0x1FF [0x55] (bytesAt 0x1FD [0x55] (bytesAt 0x1000 [0x99] [])),
      rom := bytesAt 0x7FEE [0x00, 0xA0] [] })
    t.pc = 0xA000 ∧ t.a = 0x0000 ∧ t.x = 0x1001 ∧ t.y = 0x2001 := by decide

/-- `NOP` (60_exceptions.md rule R506). -/
theorem test_nop_IN3 :
    let t := stepped (code [0xEA] { native with
      lines := { emul.lines with nmi := true }, ram := bytesAt 0x1FF [0x55] [],
      rom := bytesAt 0x7FEA [0x00, 0xB0] [] })
    t.pc = 0xB000 ∧ t.s = 0x01FB ∧ t.lines.nmi = false ∧ t.ram.read 0x1FC = 0x34 := by decide

/-- `LDA #$1234` (41_load_store.md rule R200). -/
theorem test_lda_LS2 :
    let t := run (code [0xA9, 0x34, 0x12] { native with p := { emul.p with m := false } })
    t.a = 0x1234 := by decide

/-- `LDA $FFFF` (41_load_store.md rule R200). -/
theorem test_lda_LS3 :
    let t := run (code [0xAD, 0xFF, 0xFF] { native with
      p := { emul.p with m := false }, ram := bytesAt 0x0 [0x22] [], rom := bytesAt 0x7FFF [0x11] [] })
    t.a = 0x2211 := by decide

/-- `LDX #$8000` (41_load_store.md rule R201). -/
theorem test_ldx_LS4 :
    let t := run (code [0xA2, 0x00, 0x80] { native with p := { emul.p with ex := false } })
    t.x = 0x8000 ∧ t.p.n = true := by decide

/-- `STA $FF` (41_load_store.md rule R203). -/
theorem test_sta_LS5 :
    let t := run (code [0x85, 0xFF] { native with a := 0x1234, p := { emul.p with m := false } })
    t.ram.read 0xFF = 0x34 ∧ t.ram.read 0x100 = 0x12 := by decide

/-- `STZ $10` (41_load_store.md rule R206). -/
theorem test_stz_LS6 :
    let t := run (code [0x64, 0x10] { emul with ram := bytesAt 0x10 [0x55] [] })
    t.ram.read 0x10 = 0x00 := by decide

/-- `STY $FF,X` (41_load_store.md rule R205). -/
theorem test_sty_LS7 :
    let t := run (code [0x94, 0xFF] { emul with x := 0x1, y := 0x7 })
    t.ram.read 0x0 = 0x07 := by decide

/-- `LDY $20` (41_load_store.md rule R202). -/
theorem test_ldy_LS8 :
    let t := run (code [0xA4, 0x20] { emul with ram := bytesAt 0x20 [0x80] [] })
    t.y = 0x0080 ∧ t.p.n = true := by decide

/-- `TAX` (42_transfer_blockmove.md rule R220). -/
theorem test_tax_TR1 :
    let t := run (code [0xAA] { native with a := 0x1234, p := { emul.p with m := false } })
    t.x = 0x0034 := by decide

/-- `TXA` (42_transfer_blockmove.md rule R222). -/
theorem test_txa_TR2 :
    let t := run (code [0x8A] { native with a := 0xAB00, x := 0x1280, p := { emul.p with ex := false } })
    t.a = 0xAB80 ∧ t.p.n = true := by decide

/-- `TXS` (42_transfer_blockmove.md rule R225). -/
theorem test_txs_TR3 :
    let t := run (code [0x9A] { emul with x := 0x42 })
    t.s = 0x0142 := by decide

/-- `TCS` (42_transfer_blockmove.md rule R230). -/
theorem test_tcs_TR4 :
    let t := run (code [0x1B] { native with a := 0x2345 })
    t.s = 0x2345 := by decide

/-- `XBA` (42_transfer_blockmove.md rule R232). -/
theorem test_xba_TR5 :
    let t := run (code [0xEB] { emul with a := 0x12F0 })
    t.a = 0xF012 := by decide

/-- `TDC` (42_transfer_blockmove.md rule R229). -/
theorem test_tdc_TR6 :
    let t := run (code [0x7B] { emul with dp := 0x8001 })
    t.a = 0x8001 ∧ t.p.n = true := by decide

/-- `TSX` (42_transfer_blockmove.md rule R224). -/
theorem test_tsx_TR7 :
    let t := run (code [0xBA] { native with s := 0x1FF0, p := { emul.p with ex := false } })
    t.x = 0x1FF0 := by decide

/-- `ADC #$0000` (43_alu.md rule R257). -/
theorem test_adc_AL4 :
    let t := run (code [0x69, 0x00, 0x00] { native with a := 0x7FFF, p := { emul.p with c := true, m := false } })
    t.a = 0x8000 ∧ t.p.n = true ∧ t.p.v = true ∧ t.p.c = false := by decide

/-- `ADC #$46` (43_alu.md rule R257). -/
theorem test_adc_AL7 :
    let t := run (code [0x69, 0x46] { emul with a := 0x58, p := { emul.p with c := true, d := true } })
    t.a = 0x0005 ∧ t.p.v = true := by decide

/-- `SBC #$01` (43_alu.md rule R258). -/
theorem test_sbc_AL10 :
    let t := run (code [0xE9, 0x01] { emul with p := { emul.p with c := true } })
    t.a = 0x00FF ∧ t.p.n = true ∧ t.p.c = false := by decide

/-- `SBC #$01` (43_alu.md rule R258). -/
theorem test_sbc_AL12 :
    let t := run (code [0xE9, 0x01] { emul with p := { emul.p with c := true, d := true } })
    t.a = 0x0099 ∧ t.p.n = true ∧ t.p.c = false := by decide

/-- `CMP #$41` (43_alu.md rule R259). -/
theorem test_cmp_AL15 :
    let t := run (code [0xC9, 0x41] { emul with a := 0x40, p := { emul.p with d := true, v := true } })
    t.p.n = true := by decide

/-- `CPX #$1000` (43_alu.md rule R260). -/
theorem test_cpx_AL16 :
    let t := run (code [0xE0, 0x00, 0x10] { native with x := 0x1000, p := { emul.p with ex := false } })
    t.p.z = true ∧ t.p.c = true := by decide

/-- `CPY #$06` (43_alu.md rule R261). -/
theorem test_cpy_AL17 :
    let t := run (code [0xC0, 0x06] { emul with y := 0x5 })
    t.p.n = true := by decide

/-- `AND #$0F` (43_alu.md rule R262). -/
theorem test_and_AL18 :
    let t := run (code [0x29, 0x0F] { emul with a := 0xF0 })
    t.a = 0x0000 ∧ t.p.z = true := by decide

/-- `EOR #$FF` (43_alu.md rule R264). -/
theorem test_eor_AL20 :
    let t := run (code [0x49, 0xFF] { emul with a := 0xFF })
    t.a = 0x0000 ∧ t.p.z = true := by decide

/-- `BIT $10` (43_alu.md rule R265). -/
theorem test_bit_AL21 :
    let t := run (code [0x24, 0x10] { emul with a := 0x1, ram := bytesAt 0x10 [0xC0] [] })
    t.p.n = true ∧ t.p.v = true ∧ t.p.z = true := by decide

/-- `BIT #$C0` (43_alu.md rule R265). -/
theorem test_bit_AL22 :
    let t := run (code [0x89, 0xC0] { emul with a := 0x1, p := { emul.p with v := true, n := true } })
    t.p.z = true ∧ t.p.n = true ∧ t.p.v = true := by decide

/-- `ASL A` (44_rmw.md rule R291). -/
theorem test_asl_RM1 :
    let t := run (code [0x0A] { emul with a := 0x80 })
    t.a = 0x0000 ∧ t.p.z = true ∧ t.p.c = true := by decide

/-- `LSR A` (44_rmw.md rule R292). -/
theorem test_lsr_RM2 :
    let t := run (code [0x4A] { emul with a := 0x1 })
    t.a = 0x0000 ∧ t.p.z = true ∧ t.p.c = true := by decide

/-- `ROL A` (44_rmw.md rule R293). -/
theorem test_rol_RM3 :
    let t := run (code [0x2A] { emul with a := 0x80, p := { emul.p with c := true } })
    t.a = 0x0001 := by decide

/-- `ROR A` (44_rmw.md rule R294). -/
theorem test_ror_RM4 :
    let t := run (code [0x6A] { emul with a := 0x1, p := { emul.p with c := true } })
    t.a = 0x0080 ∧ t.p.n = true := by decide

/-- `INC $10` (44_rmw.md rule R295). -/
theorem test_inc_RM5 :
    let t := run (code [0xE6, 0x10] { native with
      p := { emul.p with m := false }, ram := bytesAt 0x10 [0xFF, 0xFF] [] })
    t.p.z = true ∧ t.ram.read 0x10 = 0x00 ∧ t.ram.read 0x11 = 0x00 := by decide

/-- `DEC $10` (44_rmw.md rule R296). -/
theorem test_dec_RM6 :
    let t := run (code [0xC6, 0x10] { emul with ram := bytesAt 0x10 [0x00] [] })
    t.p.n = true ∧ t.ram.read 0x10 = 0xFF := by decide

/-- `DEC A` (44_rmw.md rule R296). -/
theorem test_dec_RM7 :
    let t := run (code [0x3A] { native with p := { emul.p with m := false } })
    t.a = 0xFFFF ∧ t.p.n = true := by decide

/-- `INX` (44_rmw.md rule R297). -/
theorem test_inx_RM8 :
    let t := run (code [0xE8] { emul with x := 0xFF })
    t.x = 0x0000 ∧ t.p.z = true := by decide

/-- `DEX` (44_rmw.md rule R299). -/
theorem test_dex_RM9 :
    let t := run (code [0xCA] { native with p := { emul.p with ex := false } })
    t.x = 0xFFFF ∧ t.p.n = true := by decide

/-- `TSB $10` (44_rmw.md rule R301). -/
theorem test_tsb_RM10 :
    let t := run (code [0x04, 0x10] { emul with a := 0xF, ram := bytesAt 0x10 [0xF0] [] })
    t.p.z = true ∧ t.ram.read 0x10 = 0xFF := by decide

/-- `TRB $10` (44_rmw.md rule R302). -/
theorem test_trb_RM11 :
    let t := run (code [0x14, 0x10] { emul with a := 0xF, ram := bytesAt 0x10 [0xFF] [] })
    t.ram.read 0x10 = 0xF0 := by decide

/-- `ASL $10FF,X` (44_rmw.md rule R291). -/
theorem test_asl_RM12 :
    let t := run (code [0x1E, 0xFF, 0x10] { emul with x := 0x1, ram := bytesAt 0x1100 [0x40] [] })
    t.p.n = true ∧ t.ram.read 0x1100 = 0x80 := by decide

/-- `BNE $8012` (45_control.md rule R327). -/
theorem test_bne_CT1 :
    let t := run (code [0xD0, 0x10] emul)
    t.pc = 0x8012 := by decide

/-- `BCC $7F82` (45_control.md rule R325). -/
theorem test_bcc_CT3 :
    let t := run (code [0x90, 0x80] emul)
    t.pc = 0x7F82 := by decide

/-- `BRL $8000` (45_control.md rule R330). -/
theorem test_brl_CT4 :
    let t := run (code [0x82, 0xFD, 0xFF] emul)
    t.pc = 0x8000 := by decide

/-- `JSR $9000` (45_control.md rule R333). -/
theorem test_jsr_CT5 :
    let t := run (code [0x20, 0x00, 0x90] emul)
    t.pc = 0x9000 ∧ t.s = 0x01FD ∧ t.ram.read 0x1FE = 0x02 ∧ t.ram.read 0x1FF = 0x80 := by decide

/-- `JSL $123456` (45_control.md rule R334). -/
theorem test_jsl_CT6 :
    let t := run (code [0x22, 0x56, 0x34, 0x12] { native with ram := bytesAt 0x1FF [0x55] [] })
    t.pc = 0x3456 ∧ t.s = 0x01FC ∧ t.pbr = 0x12 ∧ t.ram.read 0x1FD = 0x03 := by decide

/-- `JMP ($9000,X)` (45_control.md rule R331). -/
theorem test_jmp_CT7 :
    let t := run (code [0x7C, 0x00, 0x90] { emul with x := 0x2, rom := bytesAt 0x1002 [0x34, 0xA2] [] })
    t.pc = 0xA234 := by decide

/-- `JMP ($0200)` (45_control.md rule R331). -/
theorem test_jmp_CT8 :
    let t := run (code [0x6C, 0x00, 0x02] { emul with ram := bytesAt 0x200 [0x00, 0x90] [] })
    t.pc = 0x9000 := by decide

/-- `RTS` (45_control.md rule R335). -/
theorem test_rts_CT9 :
    let t := run (code [0x60] { emul with s := 0x1FD, ram := bytesAt 0x1FE [0x02, 0x80] [] })
    t.pc = 0x8003 ∧ t.s = 0x01FF := by decide

/-- `RTL` (45_control.md rule R336). -/
theorem test_rtl_CT10 :
    let t := run (code [0x6B] { native with s := 0x1FC, ram := bytesAt 0x1FD [0x03, 0x80, 0x00] [] })
    t.pc = 0x8004 ∧ t.s = 0x01FF := by decide

/-- `JML $009000` (45_control.md rule R332). -/
theorem test_jml_CT11 :
    let t := run (code [0x5C, 0x00, 0x90, 0x00] native)
    t.pc = 0x9000 := by decide

/-- `PHA` (46_stack.md rule R354). -/
theorem test_pha_ST2 :
    let t := run (code [0x48] { emul with a := 0x42, s := 0x100 })
    t.s = 0x01FF ∧ t.ram.read 0x100 = 0x42 := by decide

/-- `PLA` (46_stack.md rule R361). -/
theorem test_pla_ST3 :
    let t := run (code [0x68] { emul with ram := bytesAt 0x100 [0x80] [] })
    t.a = 0x0080 ∧ t.s = 0x0100 ∧ t.p.n = true := by decide

/-- `PHP` (46_stack.md rule R357). -/
theorem test_php_ST4 :
    let t := run (code [0x08] emul)
    t.s = 0x01FE ∧ t.ram.read 0x1FF = 0x34 := by decide

/-- `PLP` (46_stack.md rule R365). -/
theorem test_plp_ST5 :
    let t := run (code [0x28] { native with
      x := 0x1234, s := 0x1FE, p := { emul.p with ex := false }, ram := bytesAt 0x1FF [0x30] [] })
    t.x = 0x0034 ∧ t.s = 0x01FF ∧ t.p.ex = true ∧ t.p.i = false := by decide

/-- `PLP` (46_stack.md rule R365). -/
theorem test_plp_ST6 :
    let t := run (code [0x28] { emul with s := 0x1FE, ram := bytesAt 0x1FF [0xFF] [] })
    t.s = 0x01FF ∧ t.p.n = true ∧ t.p.v = true ∧ t.p.m = false := by decide

/-- `PEA #$1234` (46_stack.md rule R367). -/
theorem test_pea_ST7 :
    let t := run (code [0xF4, 0x34, 0x12] emul)
    t.s = 0x01FD ∧ t.ram.read 0x1FE = 0x34 ∧ t.ram.read 0x1FF = 0x12 := by decide

/-- `PEI $10` (46_stack.md rule R368). -/
theorem test_pei_ST8 :
    let t := run (code [0xD4, 0x10] { emul with ram := bytesAt 0x10 [0xCD, 0xAB] [] })
    t.s = 0x01FD ∧ t.ram.read 0x1FE = 0xCD ∧ t.ram.read 0x1FF = 0xAB := by decide

/-- `PER $8000` (46_stack.md rule R369). -/
theorem test_per_ST9 :
    let t := run (code [0x62, 0xFD, 0xFF] emul)
    t.s = 0x01FD ∧ t.ram.read 0x1FF = 0x80 := by decide

/-- `PHD` (46_stack.md rule R359). -/
theorem test_phd_ST10 :
    let t := run (code [0x0B] { emul with s := 0x100, dp := 0x1234 })
    t.s = 0x01FE ∧ t.ram.read 0x100 = 0x12 ∧ t.ram.read 0x1FF = 0x34 := by decide

/-- `PLD` (46_stack.md rule R366). -/
theorem test_pld_ST11 :
    let t := run (code [0x2B] { native with s := 0x1FD, ram := bytesAt 0x1FE [0x00, 0x00] [] })
    t.s = 0x01FF ∧ t.dp = 0x0000 ∧ t.p.z = true := by decide

/-- `PLB` (46_stack.md rule R364). -/
theorem test_plb_ST12 :
    let t := run (code [0xAB] { emul with s := 0x1FE, ram := bytesAt 0x1FF [0x80] [] })
    t.s = 0x01FF ∧ t.dbr = 0x80 ∧ t.p.n = true := by decide

/-- `REP #$30` (47_flags_mode_system.md rule R390). -/
theorem test_rep_FM1 :
    let t := run (code [0xC2, 0x30] native)
    t.p.m = false ∧ t.p.ex = false := by decide

/-- `SEP #$10` (47_flags_mode_system.md rule R391). -/
theorem test_sep_FM2 :
    let t := run (code [0xE2, 0x10] { native with
      x := 0x1234, y := 0xABCD, p := { emul.p with m := false, ex := false } })
    t.x = 0x0034 ∧ t.y = 0x00CD ∧ t.p.ex = true := by decide

/-- `REP #$FF` (47_flags_mode_system.md rule R390). -/
theorem test_rep_FM3 :
    let t := run (code [0xC2, 0xFF] emul)
    t.p.i = false := by decide

/-- `CLC` (47_flags_mode_system.md rule R380). -/
theorem test_clc_FM8 :
    let t := run (code [0x18] { emul with p := { emul.p with c := true } })
    t.p.c = false := by decide

/-- `CLV` (47_flags_mode_system.md rule R386). -/
theorem test_clv_FM9 :
    let t := run (code [0xB8] { emul with p := { emul.p with v := true } })
    t.p.v = false := by decide

/-- `WDM $00` (47_flags_mode_system.md rule R396). -/
theorem test_wdm_FM10 :
    let t := run (code [0x42, 0x00] emul)
    t.pc = 0x8002 := by decide

/-- `BRK $EA` (47_flags_mode_system.md rule R400). -/
theorem test_brk_FM11 :
    let t := run (code [0x00, 0xEA] { emul with rom := bytesAt 0x7FFE [0x00, 0xA0] [] })
    t.pc = 0xA000 ∧ t.s = 0x01FC ∧ t.ram.read 0x1FD = 0x34 ∧ t.ram.read 0x1FE = 0x02 := by decide

/-- `COP $00` (47_flags_mode_system.md rule R401). -/
theorem test_cop_FM12 :
    let t := run (code [0x02, 0x00] { native with rom := bytesAt 0x7FE4 [0x00, 0xB0] [] })
    t.pc = 0xB000 ∧ t.s = 0x01FB ∧ t.ram.read 0x1FC = 0x34 ∧ t.ram.read 0x1FD = 0x02 := by decide

/-- `RTI` (47_flags_mode_system.md rule R403). -/
theorem test_rti_FM13 :
    let t := run (code [0x40] { emul with s := 0x1FC, ram := bytesAt 0x1FD [0xC3, 0x34, 0x12] [] })
    t.pc = 0x1234 ∧ t.s = 0x01FF ∧ t.p.n = true ∧ t.p.v = true := by decide

/-- `RTI` (47_flags_mode_system.md rule R403). -/
theorem test_rti_FM14 :
    let t := run (code [0x40] { native with s := 0x1FB, ram := bytesAt 0x1FC [0x00, 0x34, 0x12, 0x05] [] })
    t.pc = 0x1234 ∧ t.s = 0x01FF ∧ t.pbr = 0x05 ∧ t.p.m = false := by decide

/-- `STP` (47_flags_mode_system.md rule R398). -/
theorem test_stp_FM15 :
    let t := run (code [0xDB] emul)
    t.pc = 0x8000 ∧ t.cycles = -100001 := by decide

/-- `WAI` (47_flags_mode_system.md rule R397). -/
theorem test_wai_FM16 :
    let t := run (code [0xCB] emul)
    t.wai = true := by decide

/-- `LDA $F8,X` (40_addressing.md rule R167). -/
theorem test_lda_AD1 :
    let t := run (code [0xB5, 0xF8] { emul with x := 0x10, ram := bytesAt 0x8 [0x77] [] })
    t.a = 0x0077 := by decide

/-- `LDA $FFFF,X` (40_addressing.md rule R171). -/
theorem test_lda_AD5 :
    let t := run (code [0xBD, 0xFF, 0xFF] { (extended 4 0) with
      x := 0x1, dbr := 0x1, ram := bytesAt 0x20000 [0x22] (bytesAt 0x10000 [0x11] []) })
    t.a = 0x0011 := by decide

/-- `LDA [$10],Y` (40_addressing.md rule R178). -/
theorem test_lda_AD6 :
    let t := run (codeRam [0xB7, 0x10] { (extended 0 0) with
      y := 0x1, ram := bytesAt 0x20000 [0x33] (bytesAt 0x10 [0xFF, 0xFF, 0x01] []) })
    t.a = 0x0033 := by decide

/-- `LDA $03,S` (40_addressing.md rule R168). -/
theorem test_lda_AD7 :
    let t := run (code [0xA3, 0x03] { native with s := 0x1F0, ram := bytesAt 0x1F3 [0x44] [] })
    t.a = 0x0044 := by decide

/-- `LDA ($03,S),Y` (40_addressing.md rule R169). -/
theorem test_lda_AD8 :
    let t := run (code [0xB3, 0x03] { native with
      y := 0x5, s := 0x1F0, ram := bytesAt 0x2005 [0x55] (bytesAt 0x1F3 [0x00, 0x20] []) })
    t.a = 0x0055 := by decide

/-- `LDA ($20,X)` (40_addressing.md rule R175). -/
theorem test_lda_AD9 :
    let t := run (code [0xA1, 0x20] { emul with
      x := 0x90, dp := 0x180, ram := bytesAt 0x3000 [0x5A] (bytesAt 0x230 [0x00, 0x30] []) })
    t.a = 0x005A := by decide

/-- `LDA $00FFFF,X` (40_addressing.md rule R173). -/
theorem test_lda_AD10 :
    let t := run (codeRam [0xBF, 0xFF, 0xFF, 0x00] { (extended 0 0) with x := 0x1, ram := bytesAt 0x10000 [0x77] [] })
    t.a = 0x0077 := by decide

/-- `LDA $10` (70_reset_and_hazards.md rule R621). -/
theorem test_lda_AD12 :
    let t := run (code [0xA5, 0x10] { emul with dp := 0x1, ram := bytesAt 0x11 [0x01] [] })
    t.a = 0x0001 ∧ t.cycles = -4 := by decide

/-- `LDA $10FF,X` (70_reset_and_hazards.md rule R622). -/
theorem test_lda_AD14 :
    let t := run (code [0xBD, 0xFF, 0x10] { emul with x := 0x1 })
    t.p.z = true ∧ t.cycles = -5 := by decide

/-- `STA $FEF8` (20_memory.md rule R85). -/
theorem test_sta_MM3 :
    let t := run (code [0x8D, 0xF8, 0xFE] { emul with a := 0x41 })
    t.yieldReq = true ∧ t.host.calls = [.tubeWrite 0 0x41] := by decide

/-- `LDA $123456` (20_memory.md rule R92). -/
theorem test_lda_MM5 :
    let t := run (code [0xAF, 0x56, 0x34, 0x12] { (extended 4 0) with e := true, ram := bytesAt 0x23456 [0x5A] [] })
    t.a = 0x005A := by decide

/-! ### The address map of 20_memory.md R101, at the ends of its ranges -/

theorem test_map_default_mode :
    let at_ (a : Addr) := readTarget emul a
    at_ 0x000000 = .mem (.ram 0) ∧ at_ 0x007FFF = .mem (.ram 0x7FFF) ∧ at_ 0x008000 = .mem (.rom 0) ∧
    at_ 0x00FEEF = .mem (.rom 0x7EEF) ∧ at_ 0x00FEF0 = .mem (.rom 0x7EF0) ∧ at_ 0x00FEF7 = .mem (.rom 0x7EF7) ∧
    at_ 0x00FEF8 = .tube 0 ∧ at_ 0x00FEFF = .tube 7 ∧ at_ 0x00FF00 = .mem (.rom 0x7F00) ∧
    at_ 0x00FFFF = .mem (.rom 0x7FFF) ∧ at_ 0x010000 = .mem (.ram 0) ∧ at_ 0xFFFEF9 = .tube 1 := by decide

theorem test_map_extended_mode :
    let at_ (banking : BitVec 4) (a : Addr) := readTarget (extended banking 0b101011) a
    at_ 0 0x003FFF = .mem (.ram 0x3FFF) ∧ at_ 0 0x004000 = .mem (.ram 0x4000) ∧ at_ 0 0x00FFFF = .mem (.ram 0xFFFF) ∧
    at_ 1 0x003FFF = .mem (.ram 0x3FFF) ∧ at_ 1 0x004000 = .mem (.ram 0xC000) ∧ at_ 1 0x007FFF = .mem (.ram 0xFFFF) ∧
    at_ 1 0x008000 = .mem (.ram 0x8000) ∧ at_ 2 0x008000 = .mem (.ram 0x14000) ∧ at_ 2 0x00BFFF = .mem (.ram 0x17FFF) ∧
    at_ 6 0x00BFFF = .mem (.ram 0x17FFF) ∧ at_ 6 0x00C000 = .mem (.rom 0x4000) ∧ at_ 4 0x008000 = .mem (.rom 0) ∧
    at_ 4 0x00FFFF = .mem (.rom 0x7FFF) ∧ at_ 4 0x010000 = .mem (.ram 0x10000) ∧ at_ 4 0x07FFFF = .mem (.ram 0x7FFFF) ∧
    at_ 4 0x080000 = .mem (.ram 0) ∧ at_ 4 0x08FEF8 = .tube 0 := by decide

theorem test_map_writes :
    let at_ (a : Addr) := writeTarget emul a
    at_ 0x00FEEF = .mem (.rom 0x7EEF) ∧ at_ 0x00FEF0 = .bankctl 0 ∧ at_ 0x00FEF7 = .bankctl 7 ∧ at_ 0x00FEF8 = .tube 0 ∧
    at_ 0x00FEFF = .tube 7 ∧ at_ 0x007FFF = .mem (.ram 0x7FFF) := by decide

/-- A word of the opcode table, as the table numbers its bits: LDA #12H, and JML 123456H. -/
theorem test_table_words :
    decodeTableWord 8 0xA9 = some (.ldaImm (.byte 0)) ∧ decodeTableWord 32 0x1234565C = some (.jmlLong 0x123456) ∧
    (stepped (State.reset.withFetchWord 16 0x12A9)).a = 0x12 := by decide

/-! ### Witnesses: for every statement with hypotheses, a state and operands that meet them, at the ends of its clauses -/

/-- A native state with 16-bit registers. -/
def native16 : State := { native with p := { emul.p with m := false, ex := false } }

theorem test_witness_DecodeOfEncode :
    (Instr.ldaImm (.word 0xFFFF)).wf false true = true ∧ (Instr.ldxImm (.byte 0xFF)).wf false true = true ∧
    (Instr.mvn 0xFF 0x00).wf true true = true := by decide

theorem test_witness_EncodeOfDecode :
    decode false true [0xA9, 0x34, 0x12, 0x55] = .ok (.ldaImm (.word 0x1234), [0x55]) := by decide

/-- An opcode with exactly its operand bytes: none, and three. -/
theorem test_witness_EveryOpcodeDecodes :
    instrLen true true 0xEA ≤ ([] : List Byte).length + 1 ∧ instrLen true true 0x5C ≤ ([1, 2, 3] : List Byte).length + 1 := by
  decide

/-- The three clauses: an opcode of each list, and one of neither. -/
theorem test_witness_InstructionLengthFollowsWidth :
    (Instr.cmpImm (.byte 0xFF)).wf true false = true ∧
    instrLen false true 0xE9 = 3 ∧ instrLen true true 0xE9 = 2 ∧ instrLen true false 0xE0 = 3 ∧
    instrLen false true 0xE0 = 2 ∧ instrLen false false 0xFF = 4 := by decide

/-- A fetch that wraps in its bank, and none of whose bytes is a Tube register. -/
theorem test_witness_FetchReadsConsecutiveBytes :
    ∀ k < 4, ∃ p, readTarget { emul with pc := 0xFFFE } (addr 0 (word (0xFFFE + k))) = .mem p := by
  intro k hk
  match k, hk with
  | 0, _ => exact ⟨.rom 0x7FFE, by decide⟩
  | 1, _ => exact ⟨.rom 0x7FFF, by decide⟩
  | 2, _ => exact ⟨.ram 0, by decide⟩
  | 3, _ => exact ⟨.ram 1, by decide⟩

theorem test_witness_StepRunsDecodedInstruction :
    let s := code [0xA9, 0x34, 0x12] native16
    let i : Instr := .ldaImm (.word 0x1234)
    s.wai = false ∧ i.wf s.m8 s.x8 = true ∧ (fetchBytes (encode i).length s).1 = encode i := by decide

/-- No request at all, and a masked IRQ. -/
theorem test_witness_WaitingStepFetchesNothing :
    let quiet := { emul with wai := true }
    let masked := { quiet with lines := { emul.lines with irq := true } }
    quiet.wai = true ∧ quiet.host.inputs = [] ∧ quiet.lines.irq = false ∧ quiet.yieldReq = false ∧
    masked.wai = true ∧ masked.lines.reset = false ∧ masked.lines.nmi = false ∧ masked.lines.irq = true ∧
    masked.p.i = true := by decide

theorem test_witness_StepKeepsInvariant : State.reset.Inv ∧ ∃ t, step State.reset = .next t :=
  ⟨by unfold State.Inv; decide, _, rfl⟩

theorem test_witness_StepKeepsRomBankAndParameters : ∃ t, step (code [0x8D, 0x00, 0x80] emul) = .next t := ⟨_, rfl⟩

/-- The four clauses, by the plan: all three requests, NMI with IRQ, IRQ alone, and a masked IRQ; and the same with no plan,
by the bits as they stand. -/
theorem test_witness_BoundaryTakesOneEventByPriority :
    let planned (l : Lines) (i : Bool) : State := { emul with
      p := { emul.p with i := i }, host := { emul.host with inputs := [l] } }
    let standing (l : Lines) (i : Bool) : State := { emul with p := { emul.p with i := i }, lines := l }
    (boundary (planned ⟨true, true, true⟩ false)).lines = ⟨true, true, false⟩ ∧
    (boundary (planned ⟨true, true, false⟩ false)).lines = ⟨true, false, false⟩ ∧
    (boundary (planned ⟨true, false, false⟩ false)).s = 0x01FC ∧
    (boundary (planned ⟨true, false, false⟩ true)).s = 0x01FF ∧
    (boundary (standing ⟨true, true, true⟩ false)).lines = ⟨true, true, false⟩ ∧
    (boundary (standing ⟨true, true, false⟩ false)).lines = ⟨true, false, false⟩ ∧
    (boundary (standing ⟨true, false, false⟩ false)).s = 0x01FC ∧
    (boundary (standing ⟨true, false, false⟩ true)).s = 0x01FF := by decide

/-- The first and the last register of the window, and an instruction that leaves a request. -/
theorem test_witness_TubeWriteForfeitsTheBudget :
    let s := { code [0x8D, 0xF8, 0xFE] emul with cycles := 1000 }
    writeTarget s 0x00FEF8 = .tube 0 ∧ writeTarget s 0x00FEFF = .tube 7 ∧ s.wai = false ∧
    (run s).yieldReq = true ∧ (stepped s).cycles = 0 := by decide

theorem test_witness_ExecReturnsWithBudgetSpent : 1 ≤ State.reset.cfg.waiIdleCycles := by decide

/-- The state after `init` on a machine that has not been initialised. -/
def initialised (w : Setting) (rom : Memory) (nvb : Byte) : State :=
  match apiCall w none (.init rom nvb) with
  | .next t => t
  | .fault _ => State.reset
  | .refused _ => State.reset

/-- The default parameters, with some image, some RAM and some input bits. -/
theorem test_witness_InitInstallsImageAndResets :
    let w : Setting := ⟨defaultParams, [(0x10, 0x55)], ⟨true, false, false⟩, emul.host⟩
    let t := initialised w [(0x7FFD, 0x80)] 1
    w.params = defaultParams ∧ t.pc = 0x8000 ∧ t.nvb = 1 ∧ t.ram = [(0x10, 0x55)] ∧ t.lines.irq = true := by decide

theorem test_witness_ResetLeavesTheTable : native16.cfg = defaultParams := by decide

/-- A Tube read with an answer listed; the banking-control window; memory beside the Tube window. -/
theorem test_witness_ReadReachesOneTarget :
    let s := { emul with host := { emul.host with answers := [0x77] } }
    masked s 0x12FEF8 / 8 * 8 = s.cfg.tubeBase.toNat ∧ masked s 0x00FEFF / 8 * 8 = s.cfg.tubeBase.toNat ∧
    (read8 0x00FEFF s).1 = 0x77 ∧
    masked s 0x00FEF7 / 8 * 8 ≠ s.cfg.tubeBase.toNat ∧ masked s 0x00FF00 / 8 * 8 ≠ s.cfg.tubeBase.toNat := by decide

theorem test_witness_WriteReachesOneTarget :
    let s := emul
    masked s 0x00FEF8 / 8 * 8 = s.cfg.tubeBase.toNat ∧
    masked s 0x00FEF7 / 8 * 8 = s.cfg.bankctlBase.toNat ∧ masked s 0x00FEF0 / 8 * 8 = s.cfg.bankctlBase.toNat ∧
    masked s 0x00FEEF / 8 * 8 ≠ s.cfg.bankctlBase.toNat ∧ masked s 0x00FEEF / 8 * 8 ≠ s.cfg.tubeBase.toNat ∧
    placeOf s (masked s 0x00FEEF) = .rom 0x7EEF ∧ placeOf s (masked s 0x017FFF) = .ram 0x7FFF := by decide

/-- A register of each of the four latches, under the default protocol: a bit is shifted in, and the top bit is lost. -/
theorem test_witness_LatchWriteShiftsOneBit :
    let l : Latches := { defMode := true, divider := 0b1010, banking := 0b1011, banknum := 0b100001 }
    (∀ e ∈ defaultParams.bankctl, e.1 ≠ (7#3, 0#8, l)) ∧
    (0#3).toNat / 2 = 0 ∧ bankctlWrite defaultParams 0 0xFF l = { l with defMode := false } ∧
    (3#3).toNat / 2 = 1 ∧ bankctlWrite defaultParams 3 0 l = { l with divider := 0b0101 } ∧
    (4#3).toNat / 2 = 2 ∧ bankctlWrite defaultParams 4 0 l = { l with banking := 0b0110 } ∧
    (7#3).toNat / 2 = 3 ∧ bankctlWrite defaultParams 7 0 l = { l with banknum := 0b000011 } := by decide

/-- A core whose parameters differ from the defaults in one place each: the shift-in protocol depends on the data byte, and
a page lies elsewhere in RAM. -/
theorem test_other_parameters :
    let l : Latches := { defMode := true, divider := 0, banking := 0, banknum := 0 }
    let c := { defaultParams with
      bankctl := [((2#3, 0x01#8, l), { l with divider := 1 })]
      pageMap := [((Paging.low, 0#3, 0x4000#24), 0x7C000#19)] }
    bankctlWrite c 2 0x01 l = { l with divider := 1 } ∧ bankctlWrite c 2 0x00 l = l ∧
    pageMap c .low 0 0x4000 = 0x7C000 ∧ pageMap c .low 0 0x4001 = 1 ∧ pageMap c .high 5 0x8123 = 0x14123 := by decide

/-- The ends of the map's ranges, by both descriptions. -/
theorem test_witness_DefaultAddressMap :
    let s := extended 7 0b101011
    s.cfg = defaultParams ∧
    readTarget s 0x003FFF = .mem (mapOf s 0x3FFF) ∧ readTarget s 0x004000 = .mem (mapOf s 0x4000) ∧
    readTarget s 0x007FFF = .mem (mapOf s 0x7FFF) ∧ readTarget s 0x008000 = .mem (mapOf s 0x8000) ∧
    readTarget s 0x00C000 = .mem (mapOf s 0xC000) ∧ readTarget s 0x00FFFF = .mem (mapOf s 0xFFFF) ∧
    readTarget s 0x010000 = .mem (mapOf s 0x10000) ∧ readTarget emul 0x008000 = .mem (mapOf emul 0x8000) := by decide

theorem test_witness_MaskFoldsBanks : emul.banks.defMode = true ∧ (extended 0 0).banks.defMode = false := by decide

/-- A RAM target with another address beside it, and a ROM target. -/
theorem test_witness_WrittenByteReadsBack :
    emul.ram.wf = true ∧ writeTarget emul 0x017FFF = .mem (.ram 0x7FFF) ∧
    readTarget emul 0x007FFE ≠ .mem (.ram 0x7FFF) ∧ writeTarget emul 0x008000 = .mem (.rom 0) := by decide

/-- The two clauses of (d),Y: the operand byte FFH in emulation mode, and in native mode. -/
theorem test_witness_IndirectAddress :
    (emul.e = true ∧ (0xFF : Byte).toNat = 255) ∧ ¬ (native.e = true ∧ (0xFF : Byte).toNat = 255) ∧
    ¬ (emul.e = true ∧ (0xFE : Byte).toNat = 255) := by decide

theorem test_witness_LoadResults :
    ldaForm (.ldaImm (.byte 0xFF)) = some (.imm (.byte 0xFF)) ∧ ldaForm (.ldaSrIndY 3) = some (.mem (.srIndY 3)) ∧
    ldxForm (.ldxDpY 3) = some (.mem (.dpY 3)) ∧ ldyForm (.ldyAbsX 3) = some (.mem (.absX 3)) := by decide

theorem test_witness_StoreResults :
    staForm (.staDpIndLY 3) = some (.dpIndLY 3) ∧ stxForm (.stxDpY 3) = some (.dpY 3) ∧
    styForm (.styDpX 3) = some (.dpX 3) ∧ stzForm (.stzAbsX 3) = some (.absX 3) := by decide

/-- A two-byte store whose second byte wraps in bank 0, with the cells beside its bytes; two-byte stores whose second byte
is the first Tube register, and the first register of the banking-control window. -/
theorem test_witness_WritersChangeOnlyTheirOperand :
    let s := { native16 with dp := 0xFF00, a := 0x1234 }
    writesOperand s (.staDp 0xFF) = some (.dp 0xFF, false, 0x1234) ∧
    ¬ operandReaches s (.dp 0xFF) false 0x1234 (.mem (.ram 1)) ∧
    operandReaches s (.dp 0xFF) false 0x1234 (.mem (.ram 0)) ∧
    shiftMemForm (.staDp 0xFF) = none ∧ tsbForm (.staDp 0xFF) = none ∧ trbForm (.staDp 0xFF) = none ∧
    operandReaches s (.abs 0xFEF7) false 0x1234 (.tube 0) ∧ operandReaches s (.abs 0xFEF7) false 0x1234 (.bankctl 7) ∧
    operandReaches s (.abs 0xFEEF) false 0x1234 (.bankctl 0) ∧
    ¬ operandReaches s (.abs 0xFEF7) true 0x1234 (.tube 0) := by
  simp only [operandReaches]; decide

/-- No byte of the operand is in a window of a device: at no register, for either clause. -/
theorem test_witness_WritersChangeOnlyTheirOperand_windows :
    (∀ k, ¬ operandReaches emul (.dp 0x10) true 0x21 (.bankctl k)) ∧
    (∀ reg, ¬ operandReaches emul (.dp 0x10) true 0x21 (.tube reg)) ∧
    writesOperand { emul with ram := [(0x10, 0x0F)], a := 0x03 } (.trbDp 0x10) = some (.dp 0x10, true, 0x000C) ∧
    writesOperand { emul with ram := [(0x10, 0x0F)], a := 0x30 } (.tsbDp 0x10) = some (.dp 0x10, true, 0x003F) ∧
    writesOperand { emul with ram := [(0x10, 0x81)] } (.aslDp 0x10) = some (.dp 0x10, true, 0x0002) := by
  simp only [operandReaches]; decide

theorem test_witness_AdcBinaryResult : adcForm (.adcDpXInd 0xFF) = some (.mem (.dpXInd 0xFF)) ∧ emul.p.d = false := by
  decide

theorem test_witness_SbcBinaryResult :
    sbcForm (.sbcImm (.word 0xFFFF)) = some (.imm (.word 0xFFFF)) ∧ native16.p.d = false := by decide

/-- Operands that are no decimal digits are in the statement too. -/
theorem test_witness_DecimalLoopResult :
    let s := { emul with p := { emul.p with d := true }, a := 0x00FF }
    s.p.d = true ∧ adcForm (.adcImm (.byte 0xFA)) = some (.imm (.byte 0xFA)) ∧
    sbcForm (.sbcDp 0) = some (.mem (.dp 0)) := by decide

/-- The greatest and the least decimal numbers of both widths. -/
theorem test_witness_DecimalDigitsAddAndSubtract :
    ((0x0099 : Word).toNat < span true ∧ decimalDigits (digits true) (0x0099 : Word).toNat) ∧
    ((0x9999 : Word).toNat < span false ∧ decimalDigits (digits false) (0x9999 : Word).toNat) ∧
    ((0x0000 : Word).toNat < span true ∧ decimalDigits (digits true) (0x0000 : Word).toNat) := by
  refine ⟨⟨by decide, ?_⟩, ⟨by decide, ?_⟩, ⟨by decide, ?_⟩⟩ <;> simp [decimalDigits, digits]

theorem test_witness_CompareResults :
    cmpForm (.cmpDpIndL 3) = some (.mem (.dpIndL 3)) ∧ cpxForm (.cpxImm (.byte 0)) = some (.imm (.byte 0)) ∧
    cpyForm (.cpyAbs 3) = some (.mem (.abs 3)) := by decide

theorem test_witness_LogicAndBitResults :
    andForm (.andAbsLX 3) = some (.mem (.absLX 3)) ∧ oraForm (.oraImm (.byte 1)) = some (.imm (.byte 1)) ∧
    eorForm (.eorSr 3) = some (.mem (.sr 3)) ∧ bitForm (.bitDpX 3) = some (.dpX 3) := by decide

theorem test_witness_RegisterShiftAndStepResults :
    shiftAccForm .rorAcc = some .ror ∧ shiftAccForm .decAcc = some .dec := by decide

theorem test_witness_MemoryShiftResults :
    shiftMemForm (.rolAbsX 0xFFFF) = some (.rol, .absX 0xFFFF) ∧ shiftMemForm (.decDp 0) = some (.dec, .dp 0) := by decide

theorem test_witness_TestBitsResults : tsbForm (.tsbAbs 3) = some (.abs 3) ∧ trbForm (.trbDp 3) = some (.dp 3) := by decide

/-- A branch that is taken, one that is not, and the greatest backward displacement. -/
theorem test_witness_BranchResults :
    branchForm (.bpl 0x80) = some (.plus, 0x80) ∧ Cond.plus.holds emul.p = true ∧
    branchForm (.beq 0x7F) = some (.equal, 0x7F) ∧ Cond.equal.holds emul.p = false := by decide

/-- The stack of the reset state is in RAM, in both modes. -/
theorem test_witness_ReturnUndoesCall :
    emul.ram.wf = true ∧ emul.stackPageOk = true ∧ ramStack emul 2 ∧ ramStack emul 3 ∧ native.stackPageOk = true ∧
    ramStack native 3 := by
  refine ⟨by decide, by decide, ⟨fun k => 0x1FF - k, ?_, by decide⟩, ⟨fun k => 0x1FF - k, ?_, by decide⟩, by decide,
    ⟨fun k => 0x1FF - k, ?_, by decide⟩⟩ <;> simp only [hits] <;> decide

/-- A 16-bit push in emulation mode at the bottom of page 1: its second byte goes to the top of the page. -/
theorem test_witness_PushResults :
    let s := { emul with s := 0x0100, dp := 0x1234 }
    pushForm s .phd = some [0x12, 0x34] ∧ pushForm s .pha = some [0x00] ∧
    pushHits s [0x12, 0x34] 0x100 ∧ pushHits s [0x12, 0x34] 0x1FF ∧ ¬ pushHits s [0x12, 0x34] 0xFF := by
  simp only [pushHits, hits]; decide

/-- The frame of an interrupt from the reset state, and a cell beside it. -/
theorem test_witness_InterruptEntryResult :
    pushHits emul (frameOf .brk emul) 0x1FD ∧ ¬ pushHits emul (frameOf .brk emul) 0x1FC ∧
    pushHits native (frameOf .nmi native) 0x1FC ∧ ¬ pushHits native (frameOf .nmi native) 0x1FB := by
  simp only [pushHits, hits]; decide

theorem test_witness_ReturnReversesInterrupt :
    emul.ram.wf = true ∧ emul.stackPageOk = true ∧ emul.indexHighOk = true ∧ ramStack emul 3 ∧
    native.ram.wf = true ∧ native.stackPageOk = true ∧ native.indexHighOk = true ∧ ramStack native 4 := by
  refine ⟨by decide, by decide, by decide, ⟨fun k => 0x1FF - k, ?_, by decide⟩, by decide, by decide, by decide,
    ⟨fun k => 0x1FF - k, ?_, by decide⟩⟩ <;> simp only [hits] <;> decide

/-- The state after an instruction. -/
def after (i : Instr) (s : State) : State :=
  match exec i s with
  | .next t => t
  | .fault _ => s
  | .refused _ => s

/-- Every flag does change under an instruction of its list. -/
theorem test_witness_FlagWriters :
    (after .sec emul).p.c ≠ emul.p.c ∧ (after .clv { emul with p := { emul.p with v := true } }).p.v ≠ true ∧
    (after .dex emul).p.n ≠ emul.p.n ∧ (after .tax emul).p.z ≠ emul.p.z ∧ (after .cli emul).p.i ≠ emul.p.i ∧
    (after .sed emul).p.d ≠ emul.p.d ∧ (after (.rep 0x20) native).p.m ≠ native.p.m ∧
    (after (.rep 0x10) native).p.ex ≠ native.p.ex ∧ (after .xce emul).e ≠ emul.e := by decide

/-- Every register does change under an instruction of its list, in a state that keeps the index-high invariant. -/
theorem test_witness_RegisterWriters :
    emul.indexHighOk = true ∧
    (after .incAcc emul).a ≠ emul.a ∧ (after .inx emul).x ≠ emul.x ∧ (after .iny emul).y ≠ emul.y ∧
    (after .pha emul).s ≠ emul.s ∧ (after .tcd { emul with a := 1 }).dp ≠ emul.dp ∧
    (after (.jmlLong 0x123456) emul).pbr ≠ emul.pbr ∧ (after (.mvn 1 2) emul).dbr ≠ emul.dbr ∧
    (after .wai emul).wai ≠ emul.wai := by decide

theorem test_witness_CyclesAreInvisible :
    ∃ t u, step emul = .next t ∧ step { emul with cycles := 7 } = .next u := ⟨_, _, rfl, rfl⟩

end Sys2Proof.Tests
end

section
/-! PROOFS. The status byte: its packings as numbers and bit by bit (10_state.md R41 to R44). -/

namespace Sys2Proof.Machine

open Sys2Proof.Claims

theorem bitAt_false (k : Nat) : bitAt false k = 0 := rfl

theorem bitAt_true (k : Nat) : bitAt true k = BitVec.ofNat 8 (2 ^ k) := by
  show BitVec.ofNat 8 (1 <<< k) = _
  rw [Nat.one_shiftLeft]

/-! ### As numbers -/

/-- A flag above every set bit of a byte adds its power of two, and the sum has no bit above it. -/
theorem toNat_or_bitAt (b : Byte) (f : Bool) (k : Nat) (hk : k < 8) (hb : b.toNat < 2 ^ k) :
    (b ||| bitAt f k).toNat = b.toNat + 2 ^ k * num f ∧ (b ||| bitAt f k).toNat < 2 ^ (k + 1) := by
  have hpow : 2 ^ (k + 1) = 2 ^ k + 2 ^ k := by rw [Nat.pow_succ]; omega
  cases f
  case false =>
    have hzero : (b ||| bitAt false k).toNat = b.toNat := by simp [bitAt_false]
    have hnum : 2 ^ k * num false = 0 := rfl
    omega
  case true =>
    have hlt : 2 ^ k < 2 ^ 8 := Nat.pow_lt_pow_right (by decide) hk
    have hsum : (b ||| bitAt true k).toNat = b.toNat + 2 ^ k := by
      rw [BitVec.toNat_or, bitAt_true, BitVec.toNat_ofNat, Nat.mod_eq_of_lt hlt, Nat.or_comm, Nat.add_comm]
      simpa [Nat.one_shiftLeft] using (Nat.shiftLeft_add_eq_or_of_lt hb 1).symm
    have hnum : 2 ^ k * num true = 2 ^ k := Nat.mul_one _
    omega

/-- Eight flags at their places, as a number: what both packings are. -/
theorem toNat_bits (b0 b1 b2 b3 b4 b5 b6 b7 : Bool) :
    (bitAt b0 0 ||| bitAt b1 1 ||| bitAt b2 2 ||| bitAt b3 3 ||| bitAt b4 4 ||| bitAt b5 5 ||| bitAt b6 6 |||
      bitAt b7 7).toNat =
      num b0 + 2 * num b1 + 4 * num b2 + 8 * num b3 + 16 * num b4 + 32 * num b5 + 64 * num b6 + 128 * num b7 := by
  have h0 : (bitAt b0 0).toNat = num b0 ∧ (bitAt b0 0).toNat < 2 ^ 1 := by cases b0 <;> decide
  have h1 := toNat_or_bitAt _ b1 1 (by decide) h0.2
  have h2 := toNat_or_bitAt _ b2 2 (by decide) h1.2
  have h3 := toNat_or_bitAt _ b3 3 (by decide) h2.2
  have h4 := toNat_or_bitAt _ b4 4 (by decide) h3.2
  have h5 := toNat_or_bitAt _ b5 5 (by decide) h4.2
  have h6 := toNat_or_bitAt _ b6 6 (by decide) h5.2
  have h7 := toNat_or_bitAt _ b7 7 (by decide) h6.2
  omega

/-! ### Bit by bit -/

theorem getElem_bitAt (f : Bool) (k j : Nat) (hj : j < 8) : (bitAt f k)[j] = (f && decide (k = j)) := by
  cases f
  case false => simp [bitAt_false]
  case true =>
    rw [bitAt_true, ← BitVec.getLsbD_eq_getElem hj, BitVec.getLsbD_ofNat, Nat.testBit_two_pow]
    simp [hj]

/-- Native unpacking restores a native packing. -/
@[simp] theorem flagsN_packN (f : Flags) : flagsN (packN f) = f := by
  simp [flagsN, packN, getElem_bitAt]

@[simp] theorem packN_flagsN (b : Byte) : packN (flagsN b) = b := by
  refine BitVec.eq_of_getElem_eq fun j hj => ?_
  interval_cases j <;> simp [packN, flagsN, getElem_bitAt]

/-- Emulation unpacking of an emulation packing loses the stored m and ex alone. -/
theorem flagsE_packE (brk : Bool) (f : Flags) : flagsE (packE brk f) = { f with m := false, ex := false } := by
  simp [flagsE, packE, getElem_bitAt]

/-- Settles O51: both packings are eight flags at their places, and unpacking reads each bit back. -/
theorem statusByteLayout : Obligations.StatusByteLayout := by
  unfold Obligations.StatusByteLayout
  refine fun f brk b => ⟨toNat_bits .., ?_, flagsN_packN f, packN_flagsN b, flagsE_packE brk f⟩
  exact toNat_bits f.c f.z f.i f.d brk true f.v f.n

end Sys2Proof.Machine
end

section
/-! PROOFS. What a transition keeps of the invariant, and which fields of the tables of 10_state.md R56 and R58 it
writes: once for each operation of the model, from its parts. -/

namespace Sys2Proof.Machine

open Sys2Proof.Claims

/-! ### The invariants, as implications -/

theorem indexHighOk_iff (t : State) : t.indexHighOk = true ↔ (t.x8 = true → hi t.x = 0 ∧ hi t.y = 0) := by
  unfold State.indexHighOk
  cases t.x8 <;> simp

theorem stackPageOk_iff (t : State) : t.stackPageOk = true ↔ (t.e = true → hi t.s = 1) := by
  unfold State.stackPageOk
  cases t.e <;> simp

theorem memoryOk_iff (t : State) : t.memoryOk = true ↔ ArraysOk t.ram t.rom := by
  simp [State.memoryOk, ArraysOk, and_assoc]

/-! ### What every transition keeps, and what an instruction writes -/

/-- A transition that keeps each part of the invariant of 10_state.md R32, R33 and R53, and writes neither ROM, NVB nor
a parameter. -/
structure Sound (s t : State) : Prop where
  index : s.indexHighOk = true → t.indexHighOk = true
  stack : s.stackPageOk = true → t.stackPageOk = true
  arrays : ArraysOk s.ram s.rom → ArraysOk t.ram t.rom
  rom : t.rom = s.rom
  nvb : t.nvb = s.nvb
  cfg : t.cfg = s.cfg

theorem Sound.trans {s t u : State} (h : Sound s t) (k : Sound t u) : Sound s u :=
  ⟨k.index ∘ h.index, k.stack ∘ h.stack, k.arrays ∘ h.arrays, k.rom.trans h.rom, k.nvb.trans h.nvb, k.cfg.trans h.cfg⟩

/-- A transition that leaves X, Y, S, e and ex alone keeps the index-high and the stack-page invariants. -/
theorem Sound.of_registers {s t : State} (h : t.x = s.x ∧ t.y = s.y ∧ t.s = s.s ∧ t.x8 = s.x8 ∧ t.e = s.e)
    (harrays : ArraysOk s.ram s.rom → ArraysOk t.ram t.rom) (hfixed : t.rom = s.rom ∧ t.nvb = s.nvb ∧ t.cfg = s.cfg) :
    Sound s t := by
  obtain ⟨hx, hy, hs, hx8, he⟩ := h
  obtain ⟨hrom, hnvb, hcfg⟩ := hfixed
  refine ⟨?_, ?_, harrays, hrom, hnvb, hcfg⟩
  · simp only [indexHighOk_iff, hx, hy, hx8, imp_self]
  · simp only [stackPageOk_iff, hs, he, imp_self]

/-- A transition that leaves alone everything the invariant speaks of. -/
theorem Sound.of_eq {s t : State} (h : t.x = s.x ∧ t.y = s.y ∧ t.s = s.s ∧ t.x8 = s.x8 ∧ t.e = s.e)
    (hram : t.ram = s.ram) (hfixed : t.rom = s.rom ∧ t.nvb = s.nvb ∧ t.cfg = s.cfg) : Sound s t :=
  .of_registers h (by rw [hram, hfixed.1]; exact id) hfixed

/-- The flags of 10_state.md R56 and the registers of R58, but for PC. -/
inductive StateField where
  | a | x | y | s | dp | pbr | dbr | wai | c | z | i | d | v | n | m | ex | e
  deriving DecidableEq

/-- The second state has the first one's value of a field. X and Y are compared where the first state keeps the
index-high invariant, because REP clears high bytes that are 0 there (10_state.md R40). -/
def StateField.same (s t : State) : StateField → Prop
  | .a => t.a = s.a
  | .x => s.indexHighOk = true → t.x = s.x
  | .y => s.indexHighOk = true → t.y = s.y
  | .s => t.s = s.s
  | .dp => t.dp = s.dp
  | .pbr => t.pbr = s.pbr
  | .dbr => t.dbr = s.dbr
  | .wai => t.wai = s.wai
  | .c => t.p.c = s.p.c
  | .z => t.p.z = s.p.z
  | .i => t.p.i = s.p.i
  | .d => t.p.d = s.p.d
  | .v => t.p.v = s.p.v
  | .n => t.p.n = s.p.n
  | .m => t.p.m = s.p.m
  | .ex => t.p.ex = s.p.ex
  | .e => t.e = s.e

theorem StateField.same_trans {s t u : State} {f : StateField} (hindex : s.indexHighOk = true → t.indexHighOk = true)
    (h : f.same s t) (k : f.same t u) : f.same s u := by
  cases f
  case x => exact fun hs => (k (hindex hs)).trans (h hs)
  case y => exact fun hs => (k (hindex hs)).trans (h hs)
  all_goals exact Eq.trans k h

/-- A sound transition that writes none but the listed fields, and leaves the input bits and the host's plan alone. -/
structure Writes (w : List StateField) (s t : State) : Prop extends Sound s t where
  fields : ∀ f ∉ w, f.same s t
  lines : t.lines = s.lines
  inputs : t.host.inputs = s.host.inputs

theorem Writes.trans {w w' : List StateField} {s t u : State} (h : Writes w s t) (k : Writes w' t u) :
    Writes (w ++ w') s u where
  toSound := h.toSound.trans k.toSound
  fields f hf := by
    rw [List.mem_append, not_or] at hf
    exact StateField.same_trans h.index (h.fields f hf.1) (k.fields f hf.2)
  lines := k.lines.trans h.lines
  inputs := k.inputs.trans h.inputs

/-- Two transitions that write the same fields, one after the other. -/
theorem Writes.trans_same {w : List StateField} {s t u : State} (h : Writes w s t) (k : Writes w t u) : Writes w s u :=
  { h.trans k with fields := fun f hf => (h.trans k).fields f (by simp [hf]) }

theorem Writes.mono {w w' : List StateField} {s t : State} (h : Writes w s t) (hw : w ⊆ w') : Writes w' s t :=
  { h with fields := fun f hf => h.fields f fun hm => hf (hw hm) }

/-- A transition that writes registers and flags alone. -/
theorem Writes.of_registers {w : List StateField} {s t : State} (hmem : t.ram = s.ram ∧ t.rom = s.rom ∧ t.nvb = s.nvb ∧
    t.cfg = s.cfg ∧ t.lines = s.lines ∧ t.host = s.host) (hindex : s.indexHighOk = true → t.indexHighOk = true)
    (hstack : s.stackPageOk = true → t.stackPageOk = true) (hf : ∀ f ∉ w, f.same s t) : Writes w s t := by
  obtain ⟨hram, hrom, hnvb, hcfg, hlines, hhost⟩ := hmem
  exact ⟨⟨hindex, hstack, by rw [hram, hrom]; exact id, hrom, hnvb, hcfg⟩, hf, hlines, by rw [hhost]⟩

theorem Writes.refl (s : State) : Writes [] s s :=
  .of_registers (by simp) id id fun f _ => by cases f <;> simp [StateField.same]

variable (s : State)

/-! ### Register writes -/

theorem setA_writes (v : Word) : Writes [.a] s (s.setA v) :=
  .of_registers (by simp) id id fun f hf => by cases f <;> simp_all [StateField.same]

theorem setDP_writes (v : Word) : Writes [.dp] s (s.setDP v) :=
  .of_registers (by simp) id id fun f hf => by cases f <;> simp_all [StateField.same]

theorem setPC_writes (v : Word) : Writes [] s (s.setPC v) :=
  .of_registers (by simp) id id fun f _ => by cases f <;> simp [StateField.same]

theorem setPBR_writes (v : Byte) : Writes [.pbr] s (s.setPBR v) :=
  .of_registers (by simp) id id fun f hf => by cases f <;> simp_all [StateField.same]

theorem setDBR_writes (v : Byte) : Writes [.dbr] s (s.setDBR v) :=
  .of_registers (by simp) id id fun f hf => by cases f <;> simp_all [StateField.same]

theorem setWai_writes (b : Bool) : Writes [.wai] s (s.setWai b) :=
  .of_registers (by simp) id id fun f hf => by cases f <;> simp_all [StateField.same]

theorem debit_writes (n : Nat) : Writes [] s (s.debit n) :=
  .of_registers (by simp) id id fun f _ => by cases f <;> simp [StateField.same]

theorem setAcc_writes (v : Word) : Writes [.a] s (s.setAcc v) := by
  unfold State.setAcc
  split
  · exact setA_writes s _
  · exact setA_writes s _

theorem hi_trunc_of_x8 (v : Word) (h : s.x8 = true) : hi (s.wX.trunc v) = 0 := by
  simp [State.wX, widthOf, h]

theorem putX_writes (v : Word) : Writes [.x] s (s.putX v) :=
  .of_registers (by simp)
    (fun h => (indexHighOk_iff _).mpr fun hx => ⟨hi_trunc_of_x8 s v hx, ((indexHighOk_iff s).mp h hx).2⟩) id
    fun f hf => by cases f <;> simp_all [StateField.same]

theorem putY_writes (v : Word) : Writes [.y] s (s.putY v) :=
  .of_registers (by simp)
    (fun h => (indexHighOk_iff _).mpr fun hx => ⟨((indexHighOk_iff s).mp h hx).1, hi_trunc_of_x8 s v hx⟩) id
    fun f hf => by cases f <;> simp_all [StateField.same]

/-- A write of S that keeps page 1 in emulation mode. -/
theorem setS_writes (v : Word) (hv : s.e = true → hi v = 1) : Writes [.s] s (s.setS v) :=
  .of_registers (by simp) id (fun _ => (stackPageOk_iff _).mpr hv) fun f hf => by cases f <;> simp_all [StateField.same]

/-- A write of the flags that does not set ex. -/
theorem setP_writes (w : List StateField) (g : Flags) (hex : g.ex = true → s.p.ex = true)
    (hf : ∀ f ∉ w, f.same s (s.setP g)) : Writes w s (s.setP g) := by
  have hx8 : (s.setP g).x8 = true → s.x8 = true := by
    simp only [State.x8, setP_e, setP_p, Bool.or_eq_true]
    exact Or.imp_right hex
  exact .of_registers (by simp) (fun h => (indexHighOk_iff _).mpr fun hx => (indexHighOk_iff s).mp h (hx8 hx)) id hf

theorem setNZ_writes (w : Width) (v : Word) : Writes [.n, .z] s (s.setNZ w v) :=
  setP_writes s _ _ id fun f hf => by cases f <;> simp_all [StateField.same, setNZ]

/-! ### Reads -/

@[simp] theorem afterRead_inputs (a : Addr) : (afterRead s a).host.inputs = s.host.inputs := by
  unfold afterRead
  split <;> simp [tubeAnswered]

theorem read8_writes (a : Addr) : Writes [] s (read8 a s).2 :=
  ⟨.of_eq (by simp) (by simp) (by simp), fun f _ => by cases f <;> simp [StateField.same], by simp,
    afterRead_inputs s a⟩

theorem memRead_writes (w : Width) (cls : Wrap) (a : Addr) : Writes [] s (memRead w cls a s).2 := by
  cases w
  case w8 => exact read8_writes s a
  case w16 => exact (read8_writes s a).trans (read8_writes _ _)

theorem memRead24_writes (cls : Wrap) (a : Addr) : Writes [] s (memRead24 cls a s).2 :=
  ((read8_writes s a).trans (read8_writes _ _)).trans (read8_writes _ _)

theorem readPointer_writes (bank : Byte) (off : Word) : Writes [] s (readPointer bank off s).2 :=
  (read8_writes s _).trans (read8_writes _ _)

theorem readPointerLong_writes (p : Word) : Writes [] s (readPointerLong p s).2 :=
  (readPointer_writes s 0 p).trans (read8_writes _ _)

theorem dpCharge_writes : Writes [] s (dpCharge s) := by
  unfold dpCharge
  split
  · exact .refl s
  · exact debit_writes s 1

theorem indexCharge_writes (w r : Word) : Writes [] s (indexCharge w r s) := by
  unfold indexCharge
  split
  · exact debit_writes s 1
  · exact .refl s

theorem indirectYPointer_writes (d : Byte) : Writes [] s (indirectYPointer d s).2 := by
  unfold indirectYPointer
  split
  · exact (read8_writes s _).trans (read8_writes _ _)
  · exact memRead_writes s _ _ _

theorem resolve_writes (m : AddrMode) : Writes [] s (resolve m s).2 := by
  cases m
  case dp d => exact dpCharge_writes s
  case dpX d => exact dpCharge_writes s
  case dpY d => exact dpCharge_writes s
  case dpInd d => exact (dpCharge_writes s).trans (memRead_writes _ _ _ _)
  case dpIndL d => exact (dpCharge_writes s).trans (memRead24_writes _ _ _)
  case dpXInd d => exact (dpCharge_writes s).trans (memRead_writes _ _ _ _)
  case dpIndY d => exact (dpCharge_writes s).trans (indirectYPointer_writes _ _)
  case dpIndLY d => exact (dpCharge_writes s).trans (memRead24_writes _ _ _)
  case sr d => exact .refl s
  case srIndY d => exact memRead_writes s _ _ _
  case abs w => exact .refl s
  case absX w => exact indexCharge_writes s w s.x
  case absY w => exact indexCharge_writes s w s.y
  case absL l => exact .refl s
  case absLX l => exact .refl s

theorem loadOp_writes (o : Operand) (w : Width) : Writes [] s (loadOp o w s).2 := by
  cases o
  case imm v => exact .refl s
  case mem m => exact (resolve_writes s m).trans (memRead_writes _ _ _ _)

/-! ### Writes of memory and the stack -/

@[simp] theorem write8_inputs (a : Addr) (v : Byte) : (write8 a v s).host.inputs = s.host.inputs := by
  unfold write8
  split <;> simp [tubeWritten]

theorem write8_writes (a : Addr) (v : Byte) : Writes [] s (write8 a v s) :=
  ⟨.of_registers (by simp) (write8_arrays a v s) (by simp), fun f _ => by cases f <;> simp [StateField.same], by simp,
    write8_inputs s a v⟩

theorem memWrite_writes (w : Width) (cls : Wrap) (a : Addr) (v : Word) : Writes [] s (memWrite w cls a v s) := by
  cases w
  case w8 => exact write8_writes s a _
  case w16 => exact (write8_writes s a _).trans (write8_writes _ _ _)

theorem storeOp_writes (m : AddrMode) (w : Width) (v : Word) : Writes [] s (storeOp m w v s) :=
  (resolve_writes s m).trans (memWrite_writes _ _ _ _ _)

theorem push8_writes (v : Byte) : Writes [.s] s (push8 v s) :=
  (write8_writes s _ v).trans (setS_writes _ _ fun he => by
    have hs : s.e = true := by simpa using he
    simp [stackDown, hs])

theorem push16_writes (v : Word) : Writes [.s] s (push16 v s) :=
  (push8_writes s (hi v)).trans_same (push8_writes _ _)

theorem push_writes (w : Width) (v : Word) : Writes [.s] s (push w v s) := by
  cases w
  case w8 => exact push8_writes s _
  case w16 => exact push16_writes s v

theorem pull8_writes : Writes [.s] s (pull8 s).2 :=
  (setS_writes s _ fun he => by simp [stackUp, he]).trans (read8_writes _ _)

theorem pull16_writes : Writes [.s] s (pull16 s).2 :=
  (pull8_writes s).trans_same (pull8_writes _)

theorem pull_writes (w : Width) : Writes [.s] s (pull w s).2 := by
  cases w
  case w8 => exact pull8_writes s
  case w16 => exact pull16_writes s

/-! ### The status byte -/

/-- Native unpacking clears XH and YH where it sets ex. -/
theorem unpackN_index (p : Byte) (h : s.indexHighOk = true) : (s.unpackN p).indexHighOk = true := by
  rw [indexHighOk_iff] at *
  unfold State.unpackN
  split
  · next hset => simp [State.clearIndexHigh]
  · next hclear => simpa [State.x8, hclear] using fun he => h (by simp [State.x8, he])

theorem unpackN_writes (p : Byte) : Writes [.c, .z, .i, .d, .v, .n, .m, .ex, .x, .y] s (s.unpackN p) :=
  .of_registers (by simp) (unpackN_index s p) (by simp [stackPageOk_iff]) fun f hf => by
    cases f <;> simp_all [StateField.same]

theorem unpackE_writes (p : Byte) : Writes [.c, .z, .i, .d, .v, .n, .m, .ex] s (s.unpackE p) :=
  setP_writes s _ (flagsE p) (by simp [flagsE]) fun f hf => by cases f <;> simp_all [StateField.same]

theorem unpack_writes (p : Byte) : Writes [.c, .z, .i, .d, .v, .n, .m, .ex, .x, .y] s (s.unpack p) := by
  unfold State.unpack
  split
  · exact (unpackE_writes s p).mono (by simp)
  · exact unpackN_writes s p

/-- Native unpacking that does not set ex changes X and Y in no state that keeps the index-high invariant. -/
theorem unpackN_keeps_index (p : Byte) (hex : (flagsN p).ex = true → s.p.ex = true) (h : s.indexHighOk = true) :
    (s.unpackN p).x = s.x ∧ (s.unpackN p).y = s.y := by
  unfold State.unpackN
  split
  · next hset =>
    obtain ⟨hx, hy⟩ := (indexHighOk_iff s).mp h (by simp [State.x8, hex hset])
    simp [State.clearIndexHigh, zext_lo_of_hi, hx, hy]
  · exact ⟨rfl, rfl⟩

/-- A native packing with bits reset has no ex that the flags did not have. -/
theorem flagsN_packN_and_ex (f : Flags) (b : Byte) (h : (flagsN (packN f &&& b)).ex = true) : f.ex = true := by
  have hbit : (flagsN (packN f)).ex = true := by
    simp only [flagsN, BitVec.getLsbD_and, Bool.and_eq_true] at h ⊢
    exact h.1
  rwa [flagsN_packN] at hbit

theorem resetBits_writes (k : Byte) : Writes [.c, .z, .i, .d, .v, .n, .m, .ex] s (resetBits k s) := by
  have unpacked := unpackN_writes s (packN s.p &&& ~~~(statusMask s.e k))
  have keeps := unpackN_keeps_index s _ (flagsN_packN_and_ex s.p (~~~(statusMask s.e k)))
  refine { unpacked with fields := fun f hf => ?_ }
  cases f
  case x => exact fun h => (keeps h).1
  case y => exact fun h => (keeps h).2
  all_goals exact unpacked.fields _ (by simp_all)

theorem setBits_writes (k : Byte) : Writes [.c, .z, .i, .d, .v, .n, .m, .ex, .x, .y] s (setBits k s) :=
  unpackN_writes s _

/-- XCE enters emulation mode with XH and YH clear; into native mode it sets ex only where it was set or e was. -/
theorem exchangeCE_index (h : s.indexHighOk = true) : (exchangeCE s).indexHighOk = true := by
  rw [indexHighOk_iff] at *
  unfold exchangeCE
  split
  · simp [enterEmulation, State.clearIndexHigh]
  · next hc =>
    refine fun hx => h ?_
    simp only [State.x8, setE_e, setE_p, setP_p, hc, Bool.or_eq_true, Bool.and_eq_true] at hx ⊢
    tauto

/-- XCE enters emulation mode with S in page 1. -/
theorem exchangeCE_stack : (exchangeCE s).stackPageOk = true := by
  rw [stackPageOk_iff]
  unfold exchangeCE
  split
  · simp [enterEmulation]
  · next hc => simp [hc]

theorem exchangeCE_writes : Writes [.c, .m, .ex, .e, .s, .x, .y] s (exchangeCE s) :=
  .of_registers (by unfold exchangeCE enterEmulation; split <;> simp) (exchangeCE_index s) (fun _ => exchangeCE_stack s)
    fun f hf => by unfold exchangeCE enterEmulation; split <;> cases f <;> simp_all [StateField.same]

/-! ### Interrupt entry and return -/

theorem pushFrame_writes (k : Event) : Writes [.s] s (pushFrame k s) := by
  unfold pushFrame
  split
  · exact (push16_writes s _).trans_same (push8_writes _ _)
  · exact ((push8_writes s _).trans_same (push16_writes _ _)).trans_same (push8_writes _ _)

theorem interrupt_writes (k : Event) : Writes [.s, .i, .d, .pbr, .wai] s (interrupt k s) :=
  have masked : Writes [.i, .d] (pushFrame k s) ((pushFrame k s).setP { s.p with i := true, d := false }) :=
    setP_writes _ _ _ (by simp) fun f hf => by cases f <;> simp_all [StateField.same]
  (((((pushFrame_writes s k).trans masked).trans (setPBR_writes _ 0)).trans (setWai_writes _ false)).trans
    (readPointer_writes _ _ _)).trans (setPC_writes _ _)

theorem returnFromInterrupt_writes :
    Writes [.s, .c, .z, .i, .d, .v, .n, .m, .ex, .x, .y, .pbr] s (returnFromInterrupt s) := by
  have back := (((pull8_writes s).trans (unpack_writes _ (pull8 s).1)).trans (pull16_writes _)).trans
    (setPC_writes _ (pull16 ((pull8 s).2.unpack (pull8 s).1)).1)
  unfold returnFromInterrupt
  split
  · exact back.mono (by simp)
  · exact ((back.trans (pull8_writes _)).trans (setPBR_writes _ _)).mono (by simp)

end Sys2Proof.Machine
end

section
/-! PROOFS. The operations that instructions share: which fields each writes. -/

namespace Sys2Proof.Machine

open Sys2Proof.Claims

/-! ### Loads, arithmetic, logic and compare -/

theorem lda_writes (o : Operand) (s : State) : Writes [.a, .n, .z] s (lda o s) :=
  ((loadOp_writes s o _).trans (setAcc_writes _ _)).trans (setNZ_writes _ _ _)

theorem ldx_writes (o : Operand) (s : State) : Writes [.x, .n, .z] s (ldx o s) :=
  ((loadOp_writes s o _).trans (putX_writes _ _)).trans (setNZ_writes _ _ _)

theorem ldy_writes (o : Operand) (s : State) : Writes [.y, .n, .z] s (ldy o s) :=
  ((loadOp_writes s o _).trans (putY_writes _ _)).trans (setNZ_writes _ _ _)

theorem decimalCharge_writes (s : State) : Writes [] s (decimalCharge s) := by
  unfold decimalCharge
  split
  · exact debit_writes s 1
  · exact .refl s

theorem putSum_writes (r : AluResult) (s : State) : Writes [.a, .n, .z, .c, .v] s (putSum r s) :=
  (setAcc_writes s r.res).trans (setP_writes _ [.n, .z, .c, .v] _ (by simp [setNZ])
    fun f hf => by cases f <;> simp_all [StateField.same, setNZ])

theorem adc_writes (o : Operand) (s : State) : Writes [.a, .n, .z, .c, .v] s (adc o s) :=
  ((loadOp_writes s o _).trans (decimalCharge_writes _)).trans (putSum_writes _ _)

theorem sbc_writes (o : Operand) (s : State) : Writes [.a, .n, .z, .c, .v] s (sbc o s) :=
  ((loadOp_writes s o _).trans (decimalCharge_writes _)).trans (putSum_writes _ _)

/-- A compare of an operand with a value, which CMP, CPX and CPY share. -/
theorem setP_cmpFlags_writes (o : Operand) (w : Width) (v : Word) (s : State) :
    Writes [.n, .z, .c] s ((loadOp o w s).2.setP (cmpFlags w v (loadOp o w s).1 s.p)) :=
  (loadOp_writes s o w).trans (setP_writes _ [.n, .z, .c] _ (by simp [cmpFlags, setNZ])
    fun f hf => by cases f <;> simp_all [StateField.same, cmpFlags, setNZ])

theorem logic_writes (f : Word → Word → Word) (o : Operand) (s : State) : Writes [.a, .n, .z] s (logic f o s) :=
  ((loadOp_writes s o _).trans (setAcc_writes _ _)).trans (setNZ_writes _ _ _)

theorem bitMem_writes (m : AddrMode) (s : State) : Writes [.n, .z, .v] s (bitMem m s) :=
  (loadOp_writes s (.mem m) _).trans (setP_writes _ [.n, .z, .v] _ (by simp [bitTest])
    fun f hf => by cases f <;> simp_all [StateField.same, bitTest])

theorem bitImmediate_writes (v : Imm) (s : State) : Writes [.z] s (bitImmediate v s) :=
  setP_writes _ _ _ (by simp [bitTest]) fun f hf => by cases f <;> simp_all [StateField.same, bitTest]

/-! ### Read-modify-write -/

/-- A read-modify-write function writes none but the listed flags, and not ex. -/
def FlagsWithin (w : List StateField) (f : Width → Word → Flags → Word × Flags) : Prop :=
  ∀ (width : Width) (v : Word) (s : State), Writes w s (s.setP (f width v s.p).2)

theorem rmwMem_writes {w : List StateField} {f : Width → Word → Flags → Word × Flags} (hf : FlagsWithin w f)
    (m : AddrMode) (s : State) : Writes w s (rmwMem f m s) := by
  have read := ((resolve_writes s m).trans (memRead_writes _ s.wM (resolve m s).1.cls (resolve m s).1.ea)).trans
    (debit_writes _ 1)
  have flags := hf s.wM (memRead s.wM (resolve m s).1.cls (resolve m s).1.ea (resolve m s).2).1
    ((memRead s.wM (resolve m s).1.cls (resolve m s).1.ea (resolve m s).2).2.debit 1)
  simp only [debit_frame, memRead_frame, resolve_frame] at flags
  exact ((read.trans flags).trans (memWrite_writes _ _ _ _ _)).mono (by simp)

theorem rmwAcc_writes {w : List StateField} {f : Width → Word → Flags → Word × Flags} (hf : FlagsWithin w f)
    (s : State) : Writes (.a :: w) s (rmwAcc f s) := by
  have flags := hf s.wM s.acc (s.setAcc (f s.wM s.acc s.p).1)
  simp only [setAcc_frame] at flags
  exact (setAcc_writes s _).trans flags

/-- The function of a shift, rotate, increment or decrement (44_rmw.md R291 to R296). -/
def shiftFn : Shift → Width → Word → Flags → Word × Flags
  | .asl => aslFn
  | .lsr => lsrFn
  | .rol => rolFn
  | .ror => rorFn
  | .inc => incFn
  | .dec => decFn

/-- INC and DEC leave c alone. -/
def shiftFlagsWritten : Shift → List StateField
  | .asl | .lsr | .rol | .ror => [.n, .z, .c]
  | .inc | .dec => [.n, .z]

theorem shiftFn_flags (k : Shift) : FlagsWithin (shiftFlagsWritten k) (shiftFn k) := fun width v s =>
  setP_writes s _ _ (by cases k <;> simp [shiftFn, aslFn, lsrFn, rolFn, rorFn, incFn, decFn, setNZ]) fun f hf => by
    cases k <;> cases f <;>
      simp_all [StateField.same, shiftFlagsWritten, shiftFn, aslFn, lsrFn, rolFn, rorFn, incFn, decFn, setNZ]

theorem tsbFn_flags (acc : Word) : FlagsWithin [.z] (tsbFn acc) := fun width v s =>
  setP_writes s _ _ (by simp [tsbFn]) fun f hf => by cases f <;> simp_all [StateField.same, tsbFn]

theorem trbFn_flags (acc : Word) : FlagsWithin [.z] (trbFn acc) := fun width v s =>
  setP_writes s _ _ (by simp [trbFn]) fun f hf => by cases f <;> simp_all [StateField.same, trbFn]

theorem stepX_writes (delta : Word) (s : State) : Writes [.x, .n, .z] s (stepX delta s) :=
  (putX_writes s _).trans (setNZ_writes _ _ _)

theorem stepY_writes (delta : Word) (s : State) : Writes [.y, .n, .z] s (stepY delta s) :=
  (putY_writes s _).trans (setNZ_writes _ _ _)

/-! ### Control flow -/

theorem branch_writes (cond : Bool) (r : Byte) (s : State) : Writes [] s (branch cond r s) := by
  unfold branch
  split
  · exact setPC_writes s _
  · exact .refl s

theorem jumpLong_writes (l : Addr) (s : State) : Writes [.pbr] s (jumpLong l s) :=
  (setPC_writes s _).trans (setPBR_writes _ _)

theorem jumpIndexed_writes (p : Word) (s : State) : Writes [] s (jumpIndexed p s) :=
  (readPointer_writes s _ _).trans (setPC_writes _ _)

theorem returnShort_writes (s : State) : Writes [.s] s (returnShort s) :=
  (pull16_writes s).trans (setPC_writes _ _)

theorem returnLong_writes (s : State) : Writes [.s, .pbr] s (returnLong s) :=
  ((returnShort_writes s).trans_same (pull8_writes _)).trans (setPBR_writes _ _)

/-! ### The stack -/

theorem pullAcc_writes (s : State) : Writes [.s, .a, .n, .z] s (pullAcc s) :=
  ((pull_writes s _).trans (setAcc_writes _ _)).trans (setNZ_writes _ _ _)

theorem pullX_writes (s : State) : Writes [.s, .x, .n, .z] s (pullX s) :=
  ((pull_writes s _).trans (putX_writes _ _)).trans (setNZ_writes _ _ _)

theorem pullY_writes (s : State) : Writes [.s, .y, .n, .z] s (pullY s) :=
  ((pull_writes s _).trans (putY_writes _ _)).trans (setNZ_writes _ _ _)

theorem pullDBR_writes (s : State) : Writes [.s, .dbr, .n, .z] s (pullDBR s) :=
  ((pull8_writes s).trans (setDBR_writes _ _)).trans (setNZ_writes _ _ _)

theorem pullDP_writes (s : State) : Writes [.s, .dp, .n, .z] s (pullDP s) :=
  ((pull16_writes s).trans (setDP_writes _ _)).trans (setNZ_writes _ _ _)

theorem pullP_writes (s : State) : Writes [.s, .c, .z, .i, .d, .v, .n, .m, .ex, .x, .y] s (pullP s) :=
  (pull8_writes s).trans (unpack_writes _ _)

theorem pushIndirect_writes (d : Byte) (s : State) : Writes [.s] s (pushIndirect d s) :=
  ((dpCharge_writes s).trans (memRead_writes _ _ _ _)).trans (push16_writes _ _)

/-! ### Transfers and block moves -/

theorem transferX_writes (v : Word) (s : State) : Writes [.x, .n, .z] s (transferX v s) :=
  (putX_writes s v).trans (setNZ_writes _ _ _)

theorem transferY_writes (v : Word) (s : State) : Writes [.y, .n, .z] s (transferY v s) :=
  (putY_writes s v).trans (setNZ_writes _ _ _)

theorem transferAcc_writes (v : Word) (s : State) : Writes [.a, .n, .z] s (transferAcc v s) :=
  (setAcc_writes s v).trans (setNZ_writes _ _ _)

/-- TXS and TCS keep page 1 in emulation mode (42_transfer_blockmove.md R225, R230). -/
theorem setS_stackFrom_writes (v : Word) (s : State) : Writes [.s] s (s.setS (stackFrom s.e v)) :=
  setS_writes s _ fun he => by simp [stackFrom, he]

theorem exchangeAcc_writes (s : State) : Writes [.a, .n, .z] s (exchangeAcc s) :=
  (setA_writes s _).trans (setNZ_writes _ _ _)

theorem blockMove_writes (delta : Word) (dst src : Byte) (s : State) :
    Writes [.dbr, .x, .y, .a] s (blockMove delta dst src s) := by
  have counted := (((((read8_writes s (addr src s.x)).trans
    (write8_writes _ (addr dst s.y) (read8 (addr src s.x) s).1)).trans (setDBR_writes _ dst)).trans
    (putX_writes _ (s.x + delta))).trans (putY_writes _ (s.y + delta))).trans (setA_writes _ (s.a - 1))
  unfold blockMove
  split
  · exact counted
  · exact counted.trans (setPC_writes _ _)

/-! ### The flag instructions -/

theorem setP_c_writes (b : Bool) (s : State) : Writes [.c] s (s.setP { s.p with c := b }) :=
  setP_writes s _ _ id fun f hf => by cases f <;> simp_all [StateField.same]

theorem setP_i_writes (b : Bool) (s : State) : Writes [.i] s (s.setP { s.p with i := b }) :=
  setP_writes s _ _ id fun f hf => by cases f <;> simp_all [StateField.same]

theorem setP_d_writes (b : Bool) (s : State) : Writes [.d] s (s.setP { s.p with d := b }) :=
  setP_writes s _ _ id fun f hf => by cases f <;> simp_all [StateField.same]

theorem setP_v_writes (b : Bool) (s : State) : Writes [.v] s (s.setP { s.p with v := b }) :=
  setP_writes s _ _ id fun f hf => by cases f <;> simp_all [StateField.same]

end Sys2Proof.Machine
end

section
/-! PROOFS. The cycle counter is written and never read by an instruction (10_state.md R50, 60_exceptions.md R503): an
operation on a machine with more cycles does what it does on the machine, and leaves as many more. -/

namespace Sys2Proof.Machine

/-- The state with `d` more cycles. -/
def State.credit (t : State) (d : Int) : State := t.setCycles (t.cycles + d)

variable (s : State) (d : Int)

@[simp] theorem credit_frame :
    (s.credit d).a = s.a ∧ (s.credit d).x = s.x ∧ (s.credit d).y = s.y ∧ (s.credit d).s = s.s ∧ (s.credit d).dp = s.dp ∧
    (s.credit d).pc = s.pc ∧ (s.credit d).pbr = s.pbr ∧ (s.credit d).dbr = s.dbr ∧ (s.credit d).p = s.p ∧
    (s.credit d).e = s.e ∧ (s.credit d).wai = s.wai ∧ (s.credit d).yieldReq = s.yieldReq ∧
    (s.credit d).lines = s.lines ∧ (s.credit d).banks = s.banks ∧ (s.credit d).ram = s.ram ∧
    (s.credit d).rom = s.rom ∧ (s.credit d).nvb = s.nvb ∧ (s.credit d).cfg = s.cfg ∧ (s.credit d).host = s.host ∧
    (s.credit d).m8 = s.m8 ∧ (s.credit d).x8 = s.x8 ∧ (s.credit d).wM = s.wM ∧ (s.credit d).wX = s.wX ∧
    (s.credit d).acc = s.acc ∧ (s.credit d).xVal = s.xVal ∧ (s.credit d).yVal = s.yVal := by
  simp [State.credit, State.acc, State.xVal, State.yVal]

@[simp] theorem pack_credit (b : Bool) : (s.credit d).pack b = s.pack b := rfl

/-! ### Register writes -/

@[simp] theorem setA_credit (v : Word) : (s.credit d).setA v = (s.setA v).credit d := rfl
@[simp] theorem setX_credit (v : Word) : (s.credit d).setX v = (s.setX v).credit d := rfl
@[simp] theorem setY_credit (v : Word) : (s.credit d).setY v = (s.setY v).credit d := rfl
@[simp] theorem setS_credit (v : Word) : (s.credit d).setS v = (s.setS v).credit d := rfl
@[simp] theorem setDP_credit (v : Word) : (s.credit d).setDP v = (s.setDP v).credit d := rfl
@[simp] theorem setPC_credit (v : Word) : (s.credit d).setPC v = (s.setPC v).credit d := rfl
@[simp] theorem setPBR_credit (v : Byte) : (s.credit d).setPBR v = (s.setPBR v).credit d := rfl
@[simp] theorem setDBR_credit (v : Byte) : (s.credit d).setDBR v = (s.setDBR v).credit d := rfl
@[simp] theorem setP_credit (f : Flags) : (s.credit d).setP f = (s.setP f).credit d := rfl
@[simp] theorem setE_credit (b : Bool) : (s.credit d).setE b = (s.setE b).credit d := rfl
@[simp] theorem setWai_credit (b : Bool) : (s.credit d).setWai b = (s.setWai b).credit d := rfl
@[simp] theorem setYieldReq_credit (b : Bool) : (s.credit d).setYieldReq b = (s.setYieldReq b).credit d := rfl
@[simp] theorem setLines_credit (l : Lines) : (s.credit d).setLines l = (s.setLines l).credit d := rfl
@[simp] theorem setBanks_credit (b : Latches) : (s.credit d).setBanks b = (s.setBanks b).credit d := rfl
@[simp] theorem setRam_credit (m : Memory) : (s.credit d).setRam m = (s.setRam m).credit d := rfl
@[simp] theorem setHost_credit (h : HostSide) : (s.credit d).setHost h = (s.setHost h).credit d := rfl
@[simp] theorem putX_credit (v : Word) : (s.credit d).putX v = (s.putX v).credit d := rfl
@[simp] theorem putY_credit (v : Word) : (s.credit d).putY v = (s.putY v).credit d := rfl
@[simp] theorem setNZ_credit (w : Width) (v : Word) : (s.credit d).setNZ w v = (s.setNZ w v).credit d := rfl
@[simp] theorem unpackE_credit (p : Byte) : (s.credit d).unpackE p = (s.unpackE p).credit d := rfl
@[simp] theorem clearIndexHigh_credit : (s.credit d).clearIndexHigh = s.clearIndexHigh.credit d := rfl
@[simp] theorem enterEmulation_credit : enterEmulation (s.credit d) = (enterEmulation s).credit d := rfl

@[simp] theorem setAcc_credit (v : Word) : (s.credit d).setAcc v = (s.setAcc v).credit d := by
  unfold State.setAcc
  cases h : s.wM <;> simp [h]

@[simp] theorem unpackN_credit (p : Byte) : (s.credit d).unpackN p = (s.unpackN p).credit d := by
  unfold State.unpackN
  split <;> simp

@[simp] theorem unpack_credit (p : Byte) : (s.credit d).unpack p = (s.unpack p).credit d := by
  unfold State.unpack
  cases h : s.e <;> simp [h]

/-- Debits add up, whatever the balance. -/
@[simp] theorem debit_credit (n : Nat) : (s.credit d).debit n = (s.debit n).credit d := by
  have h : s.cycles + d - n = s.cycles - n + d := by omega
  exact congrArg s.setCycles h

/-! ### Memory -/

@[simp] theorem readTarget_credit (a : Addr) : readTarget (s.credit d) a = readTarget s a := rfl
@[simp] theorem writeTarget_credit (a : Addr) : writeTarget (s.credit d) a = writeTarget s a := rfl
@[simp] theorem peek_credit (a : Addr) : peek (s.credit d) a = peek s a := rfl

@[simp] theorem afterRead_credit (a : Addr) : afterRead (s.credit d) a = (afterRead s a).credit d := by
  unfold afterRead
  rw [readTarget_credit]
  split <;> simp

@[simp] theorem read8_credit (a : Addr) : read8 a (s.credit d) = ((read8 a s).1, (read8 a s).2.credit d) := by
  simp [read8]

@[simp] theorem write8_credit (a : Addr) (v : Byte) : write8 a v (s.credit d) = (write8 a v s).credit d := by
  unfold write8
  rw [writeTarget_credit]
  split <;> simp

@[simp] theorem memRead_credit (w : Width) (cls : Wrap) (a : Addr) :
    memRead w cls a (s.credit d) = ((memRead w cls a s).1, (memRead w cls a s).2.credit d) := by
  cases w <;> simp [memRead]

@[simp] theorem memRead24_credit (cls : Wrap) (a : Addr) :
    memRead24 cls a (s.credit d) = ((memRead24 cls a s).1, (memRead24 cls a s).2.credit d) := by
  simp [memRead24]

@[simp] theorem memWrite_credit (w : Width) (cls : Wrap) (a : Addr) (v : Word) :
    memWrite w cls a v (s.credit d) = (memWrite w cls a v s).credit d := by
  cases w <;> simp [memWrite]

@[simp] theorem readPointer_credit (bank : Byte) (off : Word) :
    readPointer bank off (s.credit d) = ((readPointer bank off s).1, (readPointer bank off s).2.credit d) := by
  simp [readPointer]

@[simp] theorem readPointerLong_credit (p : Word) :
    readPointerLong p (s.credit d) = ((readPointerLong p s).1, (readPointerLong p s).2.credit d) := by
  simp [readPointerLong]

/-! ### Operands -/

@[simp] theorem dpSum_credit (b : Byte) : dpSum (s.credit d) b = dpSum s b := rfl
@[simp] theorem dpIndexed_credit (b : Byte) (r : Word) : dpIndexed (s.credit d) b r = dpIndexed s b r := rfl
@[simp] theorem srSum_credit (b : Byte) : srSum (s.credit d) b = srSum s b := rfl

@[simp] theorem dpCharge_credit : dpCharge (s.credit d) = (dpCharge s).credit d := by
  simp only [dpCharge, credit_frame]
  split <;> simp

@[simp] theorem indexCharge_credit (w r : Word) : indexCharge w r (s.credit d) = (indexCharge w r s).credit d := by
  simp only [indexCharge, credit_frame]
  split <;> simp

@[simp] theorem indirectYPointer_credit (b : Byte) :
    indirectYPointer b (s.credit d) = ((indirectYPointer b s).1, (indirectYPointer b s).2.credit d) := by
  simp only [indirectYPointer, credit_frame]
  split <;> simp

@[simp] theorem resolve_credit (m : AddrMode) :
    resolve m (s.credit d) = ((resolve m s).1, (resolve m s).2.credit d) := by
  cases m <;> simp [resolve]

@[simp] theorem loadOp_credit (o : Operand) (w : Width) :
    loadOp o w (s.credit d) = ((loadOp o w s).1, (loadOp o w s).2.credit d) := by
  cases o <;> simp [loadOp]

@[simp] theorem storeOp_credit (m : AddrMode) (w : Width) (v : Word) :
    storeOp m w v (s.credit d) = (storeOp m w v s).credit d := by
  simp [storeOp]

/-! ### The stack and interrupts -/

@[simp] theorem push8_credit (v : Byte) : push8 v (s.credit d) = (push8 v s).credit d := by simp [push8]

@[simp] theorem push16_credit (v : Word) : push16 v (s.credit d) = (push16 v s).credit d := by simp [push16]

@[simp] theorem push_credit (w : Width) (v : Word) : push w v (s.credit d) = (push w v s).credit d := by
  cases w <;> simp [push]

@[simp] theorem pull8_credit : pull8 (s.credit d) = ((pull8 s).1, (pull8 s).2.credit d) := by simp [pull8]

@[simp] theorem pull16_credit : pull16 (s.credit d) = ((pull16 s).1, (pull16 s).2.credit d) := by simp [pull16]

@[simp] theorem pull_credit (w : Width) : pull w (s.credit d) = ((pull w s).1, (pull w s).2.credit d) := by
  cases w <;> simp [pull]

@[simp] theorem pushFrame_credit (k : Event) : pushFrame k (s.credit d) = (pushFrame k s).credit d := by
  simp only [pushFrame, credit_frame]
  split <;> simp

@[simp] theorem interrupt_credit (k : Event) : interrupt k (s.credit d) = (interrupt k s).credit d := by
  simp [interrupt]

@[simp] theorem returnFromInterrupt_credit : returnFromInterrupt (s.credit d) = (returnFromInterrupt s).credit d := by
  simp only [returnFromInterrupt, credit_frame]
  split <;> simp

/-! ### Operations of instructions that branch on the state -/

@[simp] theorem decimalCharge_credit (s : State) (d : Int) :
    decimalCharge (s.credit d) = (decimalCharge s).credit d := by
  simp only [decimalCharge, credit_frame]
  split <;> simp

@[simp] theorem putSum_credit (r : AluResult) (s : State) (d : Int) :
    putSum r (s.credit d) = (putSum r s).credit d := by
  simp [putSum]

theorem adc_credit (o : Operand) (s : State) (d : Int) : adc o (s.credit d) = (adc o s).credit d := by
  simp [adc]

theorem sbc_credit (o : Operand) (s : State) (d : Int) : sbc o (s.credit d) = (sbc o s).credit d := by
  simp [sbc]

theorem branch_credit (c : Claims.Cond) (r : Byte) (s : State) (d : Int) :
    branch (c.holds (s.credit d).p) r (s.credit d) = (branch (c.holds s.p) r s).credit d := by
  simp only [branch, credit_frame]
  split <;> simp

theorem exchangeCE_credit (s : State) (d : Int) : exchangeCE (s.credit d) = (exchangeCE s).credit d := by
  simp only [exchangeCE, credit_frame]
  split <;> simp

theorem blockMove_credit (delta : Word) (dst src : Byte) (s : State) (d : Int) :
    blockMove delta dst src (s.credit d) = (blockMove delta dst src s).credit d := by
  simp only [blockMove, credit_frame]
  split <;> simp

/-! ### The fetch -/

@[simp] theorem fetch8_credit : fetch8 (s.credit d) = ((fetch8 s).1, (fetch8 s).2.credit d) := by simp [fetch8]

@[simp] theorem fetchBytes_credit (n : Nat) :
    fetchBytes n (s.credit d) = ((fetchBytes n s).1, (fetchBytes n s).2.credit d) := by
  induction n generalizing s with
  | zero => rfl
  | succ n ih => simp [fetchBytes_succ, ih]

@[simp] theorem fetchInstr_credit : fetchInstr (s.credit d) = ((fetchInstr s).1, (fetchInstr s).2.credit d) := by
  simp [fetchInstr]

end Sys2Proof.Machine
end

section
/-! PROOFS. What the 256 arms of exec do, said once: every instruction runs one shared operation, whose written fields
are known and which the cycle counter does not steer. -/

namespace Sys2Proof.Machine

open Sys2Proof.Claims

/-- An operation that an instruction runs, the fields it writes, and that the cycle counter does not steer it. -/
structure Meaning where
  run : State → State
  written : List StateField
  writes : ∀ s, Writes written s (run s)
  blind : ∀ s d, run (s.credit d) = (run s).credit d

namespace Meaning

/-- A write of one flag: CLC to CLV. -/
def flag (w : List StateField) (g : Flags → Flags) (h : ∀ s : State, Writes w s (s.setP (g s.p))) : Meaning :=
  ⟨fun s => s.setP (g s.p), w, h, fun _ _ => rfl⟩

/-- A push of a byte of the state. -/
def pushByte (v : State → Byte) (hv : ∀ s d, v (s.credit d) = v s) : Meaning :=
  ⟨fun s => push8 (v s) s, [.s], fun s => push8_writes s _, by simp [hv]⟩

/-- A push of a word of the state. -/
def pushWord (v : State → Word) (hv : ∀ s d, v (s.credit d) = v s) : Meaning :=
  ⟨fun s => push16 (v s) s, [.s], fun s => push16_writes s _, by simp [hv]⟩

/-- The instructions with more than one addressing mode, and the branches. -/
def ofForms (i : Instr) : Option Meaning :=
  (ldaForm i).map (fun o => ⟨lda o, [.a, .n, .z], lda_writes o, by simp [lda]⟩) <|>
  (ldxForm i).map (fun o => ⟨ldx o, [.x, .n, .z], ldx_writes o, by simp [ldx]⟩) <|>
  (ldyForm i).map (fun o => ⟨ldy o, [.y, .n, .z], ldy_writes o, by simp [ldy]⟩) <|>
  (staForm i).map (fun m => ⟨sta m, [], fun s => storeOp_writes s m _ _, by simp [sta]⟩) <|>
  (stxForm i).map (fun m => ⟨stx m, [], fun s => storeOp_writes s m _ _, by simp [stx]⟩) <|>
  (styForm i).map (fun m => ⟨sty m, [], fun s => storeOp_writes s m _ _, by simp [sty]⟩) <|>
  (stzForm i).map (fun m => ⟨stz m, [], fun s => storeOp_writes s m _ _, by simp [stz]⟩) <|>
  (adcForm i).map (fun o => ⟨adc o, [.a, .n, .z, .c, .v], adc_writes o, adc_credit o⟩) <|>
  (sbcForm i).map (fun o => ⟨sbc o, [.a, .n, .z, .c, .v], sbc_writes o, sbc_credit o⟩) <|>
  (cmpForm i).map (fun o => ⟨compareAcc o, [.n, .z, .c], fun s => setP_cmpFlags_writes o _ _ s,
    by simp [compareAcc]⟩) <|>
  (cpxForm i).map (fun o => ⟨compareX o, [.n, .z, .c], fun s => setP_cmpFlags_writes o _ _ s,
    by simp [compareX]⟩) <|>
  (cpyForm i).map (fun o => ⟨compareY o, [.n, .z, .c], fun s => setP_cmpFlags_writes o _ _ s,
    by simp [compareY]⟩) <|>
  (andForm i).map (fun o => ⟨logic (· &&& ·) o, [.a, .n, .z], logic_writes _ o, by simp [logic]⟩) <|>
  (oraForm i).map (fun o => ⟨logic (· ||| ·) o, [.a, .n, .z], logic_writes _ o, by simp [logic]⟩) <|>
  (eorForm i).map (fun o => ⟨logic (· ^^^ ·) o, [.a, .n, .z], logic_writes _ o, by simp [logic]⟩) <|>
  (bitForm i).map (fun m => ⟨bitMem m, [.n, .z, .v], bitMem_writes m, by simp [bitMem]⟩) <|>
  (shiftMemForm i).map (fun p => ⟨rmwMem (shiftFn p.1) p.2, shiftFlagsWritten p.1,
    rmwMem_writes (shiftFn_flags p.1) p.2, by simp [rmwMem]⟩) <|>
  (shiftAccForm i).map (fun k => ⟨rmwAcc (shiftFn k), .a :: shiftFlagsWritten k,
    rmwAcc_writes (shiftFn_flags k), by simp [rmwAcc]⟩) <|>
  (tsbForm i).map (fun m => ⟨fun s => rmwMem (tsbFn s.acc) m s, [.z],
    fun s => rmwMem_writes (tsbFn_flags s.acc) m s, by simp [rmwMem]⟩) <|>
  (trbForm i).map (fun m => ⟨fun s => rmwMem (trbFn s.acc) m s, [.z],
    fun s => rmwMem_writes (trbFn_flags s.acc) m s, by simp [rmwMem]⟩) <|>
  (branchForm i).map (fun p => ⟨fun s => branch (p.1.holds s.p) p.2 s, [], fun s => branch_writes _ p.2 s,
    branch_credit p.1 p.2⟩)

/-- The other instructions. -/
def single : Instr → Meaning
  | .bitImm v => ⟨bitImmediate v, [.z], bitImmediate_writes v, by simp [bitImmediate]⟩
  | .inx => ⟨stepX 1, [.x, .n, .z], stepX_writes 1, by simp [stepX]⟩
  | .dex => ⟨stepX (-1), [.x, .n, .z], stepX_writes (-1), by simp [stepX]⟩
  | .iny => ⟨stepY 1, [.y, .n, .z], stepY_writes 1, by simp [stepY]⟩
  | .dey => ⟨stepY (-1), [.y, .n, .z], stepY_writes (-1), by simp [stepY]⟩
  -- control flow
  | .brl r => ⟨fun s => s.setPC (s.pc + r), [], fun s => setPC_writes s _, by simp⟩
  | .jmpAbs w => ⟨fun s => s.setPC w, [], fun s => setPC_writes s w, by simp⟩
  | .jmpInd p => ⟨fun s => (readPointer 0 p s).2.setPC (readPointer 0 p s).1, [],
      fun s => (readPointer_writes s 0 p).trans (setPC_writes _ _), by simp⟩
  | .jmpXInd p => ⟨jumpIndexed p, [], jumpIndexed_writes p, by simp [jumpIndexed]⟩
  | .jmlLong l => ⟨jumpLong l, [.pbr], jumpLong_writes l, by simp [jumpLong]⟩
  | .jmlInd p => ⟨fun s => jumpLong (readPointerLong p s).1 (readPointerLong p s).2, [.pbr],
      fun s => (readPointerLong_writes s p).trans (jumpLong_writes _ _), by simp [jumpLong]⟩
  | .jsrAbs w => ⟨fun s => (pushReturn s).setPC w, [.s],
      fun s => (push16_writes s _).trans (setPC_writes _ w), by simp [pushReturn]⟩
  | .jsrXInd p => ⟨fun s => jumpIndexed p (pushReturn s), [.s],
      fun s => (push16_writes s _).trans (jumpIndexed_writes p _), by simp [pushReturn, jumpIndexed]⟩
  | .jsl l => ⟨fun s => jumpLong l (pushReturn (push8 s.pbr s)), [.s, .pbr],
      fun s => ((push8_writes s _).trans_same (push16_writes _ _)).trans (jumpLong_writes l _),
      by simp [pushReturn, jumpLong]⟩
  | .rts => ⟨returnShort, [.s], returnShort_writes, by simp [returnShort]⟩
  | .rtl => ⟨returnLong, [.s, .pbr], returnLong_writes, by simp [returnLong, returnShort]⟩
  -- the stack
  | .pha => ⟨fun s => push s.wM s.acc s, [.s], fun s => push_writes s _ _, by simp⟩
  | .phx => ⟨fun s => push s.wX s.xVal s, [.s], fun s => push_writes s _ _, by simp⟩
  | .phy => ⟨fun s => push s.wX s.yVal s, [.s], fun s => push_writes s _ _, by simp⟩
  | .php => pushByte (·.pack true) (by simp)
  | .phb => pushByte (·.dbr) (by simp)
  | .phk => pushByte (·.pbr) (by simp)
  | .phd => pushWord (·.dp) (by simp)
  | .pea w => pushWord (fun _ => w) (by simp)
  | .per r => pushWord (·.pc + r) (by simp)
  | .pei d => ⟨pushIndirect d, [.s], pushIndirect_writes d, by simp [pushIndirect]⟩
  | .pla => ⟨pullAcc, [.s, .a, .n, .z], pullAcc_writes, by simp [pullAcc]⟩
  | .plx => ⟨pullX, [.s, .x, .n, .z], pullX_writes, by simp [pullX]⟩
  | .ply => ⟨pullY, [.s, .y, .n, .z], pullY_writes, by simp [pullY]⟩
  | .plb => ⟨pullDBR, [.s, .dbr, .n, .z], pullDBR_writes, by simp [pullDBR]⟩
  | .pld => ⟨pullDP, [.s, .dp, .n, .z], pullDP_writes, by simp [pullDP]⟩
  | .plp => ⟨pullP, [.s, .c, .z, .i, .d, .v, .n, .m, .ex, .x, .y], pullP_writes, by simp [pullP]⟩
  -- flags, mode and system
  | .clc => flag [.c] (fun f => { f with c := false }) (setP_c_writes false)
  | .sec => flag [.c] (fun f => { f with c := true }) (setP_c_writes true)
  | .cli => flag [.i] (fun f => { f with i := false }) (setP_i_writes false)
  | .sei => flag [.i] (fun f => { f with i := true }) (setP_i_writes true)
  | .cld => flag [.d] (fun f => { f with d := false }) (setP_d_writes false)
  | .sed => flag [.d] (fun f => { f with d := true }) (setP_d_writes true)
  | .clv => flag [.v] (fun f => { f with v := false }) (setP_v_writes false)
  | .rep k => ⟨resetBits k, [.c, .z, .i, .d, .v, .n, .m, .ex], fun s => resetBits_writes s k, by simp [resetBits]⟩
  | .sep k => ⟨setBits k, [.c, .z, .i, .d, .v, .n, .m, .ex, .x, .y], fun s => setBits_writes s k, by simp [setBits]⟩
  | .xce => ⟨exchangeCE, [.c, .m, .ex, .e, .s, .x, .y], exchangeCE_writes, exchangeCE_credit⟩
  | .wai => ⟨fun s => s.setWai true, [.wai], fun s => setWai_writes s true, by simp⟩
  | .stp => ⟨stopClock, [], fun s => (setPC_writes s _).trans (debit_writes _ _), by simp [stopClock]⟩
  | .brk _ => ⟨interrupt .brk, [.s, .i, .d, .pbr, .wai], fun s => interrupt_writes s .brk, by simp⟩
  | .cop _ => ⟨interrupt .cop, [.s, .i, .d, .pbr, .wai], fun s => interrupt_writes s .cop, by simp⟩
  | .rti => ⟨returnFromInterrupt, [.s, .c, .z, .i, .d, .v, .n, .m, .ex, .x, .y, .pbr], returnFromInterrupt_writes,
      by simp⟩
  -- transfers
  | .tax => ⟨fun s => transferX s.a s, [.x, .n, .z], fun s => transferX_writes _ s, by simp [transferX]⟩
  | .tsx => ⟨fun s => transferX s.s s, [.x, .n, .z], fun s => transferX_writes _ s, by simp [transferX]⟩
  | .tyx => ⟨fun s => transferX s.y s, [.x, .n, .z], fun s => transferX_writes _ s, by simp [transferX]⟩
  | .tay => ⟨fun s => transferY s.a s, [.y, .n, .z], fun s => transferY_writes _ s, by simp [transferY]⟩
  | .txy => ⟨fun s => transferY s.x s, [.y, .n, .z], fun s => transferY_writes _ s, by simp [transferY]⟩
  | .txa => ⟨fun s => transferAcc s.x s, [.a, .n, .z], fun s => transferAcc_writes _ s, by simp [transferAcc]⟩
  | .tya => ⟨fun s => transferAcc s.y s, [.a, .n, .z], fun s => transferAcc_writes _ s, by simp [transferAcc]⟩
  | .txs => ⟨fun s => s.setS (stackFrom s.e s.x), [.s], fun s => setS_stackFrom_writes _ s, by simp⟩
  | .tcs => ⟨fun s => s.setS (stackFrom s.e s.a), [.s], fun s => setS_stackFrom_writes _ s, by simp⟩
  | .tcd => ⟨fun s => (s.setDP s.a).setNZ .w16 s.a, [.dp, .n, .z],
      fun s => (setDP_writes s _).trans (setNZ_writes _ _ _), by simp⟩
  | .tdc => ⟨fun s => (s.setA s.dp).setNZ .w16 s.dp, [.a, .n, .z],
      fun s => (setA_writes s _).trans (setNZ_writes _ _ _), by simp⟩
  | .tsc => ⟨fun s => (s.setA s.s).setNZ .w16 s.s, [.a, .n, .z],
      fun s => (setA_writes s _).trans (setNZ_writes _ _ _), by simp⟩
  | .xba => ⟨exchangeAcc, [.a, .n, .z], exchangeAcc_writes, by simp [exchangeAcc]⟩
  | .mvn dst src => ⟨blockMove 1 dst src, [.dbr, .x, .y, .a], blockMove_writes 1 dst src, blockMove_credit 1 dst src⟩
  | .mvp dst src => ⟨blockMove (-1) dst src, [.dbr, .x, .y, .a], blockMove_writes (-1) dst src,
      blockMove_credit (-1) dst src⟩
  -- NOP and WDM; every other instruction has a form above
  | _ => ⟨id, [], Writes.refl, fun _ _ => rfl⟩

/-- The meaning of an instruction. -/
def of (i : Instr) : Meaning := (ofForms i).getD (single i)

end Meaning

/-- Every arm of exec answers the next state that its meaning runs to. -/
theorem exec_eq_run (i : Instr) (s : State) : exec i s = .next ((Meaning.of i).run s) := by
  cases i <;> rfl

/-- What an instruction writes. -/
theorem exec_writes {i : Instr} {s t : State} (h : exec i s = .next t) : Writes (Meaning.of i).written s t := by
  rw [exec_eq_run] at h
  obtain rfl := Host.Outcome.next.inj h
  exact (Meaning.of i).writes s

end Sys2Proof.Machine
end

section
/-! PROOFS. The tables of 10_state.md R56 and R58, checked opcode by opcode. -/

namespace Sys2Proof.Machine

/-- The instruction of a form with a zero operand. -/
def Form.sample : Form → Instr
  | .op0 i => i
  | .op1 f => f 0
  | .op2 f => f 0
  | .op3 f => f 0
  | .blk f => f 0 0
  | .immM f => f (.byte 0)
  | .immX f => f (.byte 0)

/-- The rows of the opcode map. -/
def opcodeRows : List (List Form) :=
  [opcodes0, opcodes1, opcodes2, opcodes3, opcodes4, opcodes5, opcodes6, opcodes7, opcodes8, opcodes9, opcodesA,
    opcodesB, opcodesC, opcodesD, opcodesE, opcodesF]

/-- The fields that the instructions of an opcode write: those that its instruction with a zero operand writes. -/
def writtenAt (op : Byte) : List StateField :=
  (Meaning.of (Form.sample ((opcodeRows.getD (op.toNat / 16) []).getD (op.toNat % 16) (.op0 .nop)))).written

/-- The fields an instruction writes depend on its opcode alone. -/
theorem written_beq (i : Instr) : ((Meaning.of i).written == writtenAt i.opcode) = true := by
  cases i <;> dsimp only [Instr.opcode] <;> rfl

/-- A field that an instruction changes is among those its opcode writes. -/
theorem mem_writtenAt {i : Instr} {s t : State} (h : exec i s = .next t) (f : StateField) (hf : ¬ f.same s t) :
    f ∈ writtenAt i.opcode := by
  rw [← eq_of_beq (written_beq i)]
  by_contra hmem
  exact hf ((exec_writes h).fields f hmem)

/-- The opcode is in every row whose field it writes. -/
def listedAt (rows : List (StateField × List Byte)) (op : Byte) : Bool :=
  (writtenAt op).all fun f => rows.all fun r => f != r.1 || r.2.contains op

/-- Every opcode, by the row and the column of the opcode map, is in the rows of the fields it writes. -/
def tableOk (rows : List (StateField × List Byte)) : Bool :=
  (List.range 16).all fun j => (List.range 16).all fun k => listedAt rows (BitVec.ofNat 8 (16 * j + k))

theorem listedAt_of_tableOk {rows : List (StateField × List Byte)} (table : tableOk rows = true) (op : Byte) :
    listedAt rows op = true := by
  have hlt := op.isLt
  have hrow : op.toNat / 16 ∈ List.range 16 := List.mem_range.mpr (by omega)
  have hcol : op.toNat % 16 ∈ List.range 16 := List.mem_range.mpr (by omega)
  have hlisted := List.all_eq_true.mp (List.all_eq_true.mp table _ hrow) _ hcol
  rwa [Nat.div_add_mod, BitVec.ofNat_toNat, BitVec.setWidth_eq] at hlisted

/-- An instruction that changes the field of a row has an opcode of that row. -/
theorem mem_of_tableOk {rows : List (StateField × List Byte)} (table : tableOk rows = true) {i : Instr} {s t : State}
    (h : exec i s = .next t) (f : StateField) (codes : List Byte) (hrow : (f, codes) ∈ rows) (hf : ¬ f.same s t) :
    i.opcode ∈ codes := by
  have hlisted := List.all_eq_true.mp (List.all_eq_true.mp (listedAt_of_tableOk table i.opcode) f
    (mem_writtenAt h f hf)) (f, codes) hrow
  simpa using hlisted

/-- A table of flag writers that lists every opcode that writes the flag. -/
theorem flags_of_table {c v n z i d m ex e : List Byte} (quiet : Byte)
    (table : tableOk [(.c, c), (.v, v), (.n, n), (.z, z), (.i, i), (.d, d), (.m, m), (.ex, ex), (.e, e)] = true)
    (hv : .v ∉ writtenAt quiet) (hn : .n ∉ writtenAt quiet) (j : Instr) (s t : State) (h : exec j s = .next t) :
    (t.p.c ≠ s.p.c → j.opcode ∈ c) ∧ (t.p.v ≠ s.p.v → j.opcode ∈ v ∧ j.opcode ≠ quiet) ∧
    (t.p.n ≠ s.p.n → j.opcode ∈ n ∧ j.opcode ≠ quiet) ∧ (t.p.z ≠ s.p.z → j.opcode ∈ z) ∧
    (t.p.i ≠ s.p.i → j.opcode ∈ i) ∧ (t.p.d ≠ s.p.d → j.opcode ∈ d) ∧ (t.p.m ≠ s.p.m → j.opcode ∈ m) ∧
    (t.p.ex ≠ s.p.ex → j.opcode ∈ ex) ∧ (t.e ≠ s.e → j.opcode ∈ e) := by
  have listed (f : StateField) (codes) (hrow) (hf) := mem_of_tableOk table h f codes hrow hf
  have loud {f : StateField} (hq : f ∉ writtenAt quiet) (hf : ¬ f.same s t) : j.opcode ≠ quiet :=
    fun he => hq (he ▸ mem_writtenAt h f hf)
  exact ⟨listed .c c (by simp), fun k => ⟨listed .v v (by simp) k, loud hv k⟩,
    fun k => ⟨listed .n n (by simp) k, loud hn k⟩, listed .z z (by simp), listed .i i (by simp), listed .d d (by simp),
    listed .m m (by simp), listed .ex ex (by simp), listed .e e (by simp)⟩

/-- Settles O58: each flag list holds every opcode whose meaning writes the flag, and BIT immediate writes z alone. -/
theorem flagWriters : Obligations.FlagWriters := by
  unfold Obligations.FlagWriters
  exact flags_of_table 0x89 (by decide) (by decide) (by decide)

/-- A table of register writers that lists every opcode that writes the register. -/
theorem registers_of_table {a x y sp dp pbr dbr wai : List Byte}
    (table : tableOk [(.a, a), (.x, x), (.y, y), (.s, sp), (.dp, dp), (.pbr, pbr), (.dbr, dbr), (.wai, wai)] = true)
    (j : Instr) (s t : State) (h : exec j s = .next t) :
    (t.a ≠ s.a → j.opcode ∈ a) ∧ (s.indexHighOk = true → t.x ≠ s.x → j.opcode ∈ x) ∧
    (s.indexHighOk = true → t.y ≠ s.y → j.opcode ∈ y) ∧ (t.s ≠ s.s → j.opcode ∈ sp) ∧ (t.dp ≠ s.dp → j.opcode ∈ dp) ∧
    (t.pbr ≠ s.pbr → j.opcode ∈ pbr) ∧ (t.dbr ≠ s.dbr → j.opcode ∈ dbr) ∧ (t.wai ≠ s.wai → j.opcode ∈ wai) ∧
    t.lines = s.lines ∧ t.host.inputs = s.host.inputs := by
  have listed (f : StateField) (codes) (hrow) (hf) := mem_of_tableOk table h f codes hrow hf
  have writes := exec_writes h
  exact ⟨listed .a a (by simp), fun ok k => listed .x x (by simp) fun same => k (same ok),
    fun ok k => listed .y y (by simp) fun same => k (same ok), listed .s sp (by simp), listed .dp dp (by simp),
    listed .pbr pbr (by simp), listed .dbr dbr (by simp), listed .wai wai (by simp), writes.lines, writes.inputs⟩

/-- Settles O59: each register list holds every opcode whose meaning writes the register. -/
theorem registerWriters : Obligations.RegisterWriters := by
  unfold Obligations.RegisterWriters
  exact registers_of_table (by decide)

end Sys2Proof.Machine
end

section
/-! PROOFS. The step: what one iteration of the run loop can do, said once, and the statements about every step. -/

namespace Sys2Proof.Machine

open Sys2Proof.Claims

/-! ### What a step can do -/

/-- An instruction that answers a next state decoded, and ran on the state past its bytes. -/
theorem runInstr_cases {s u : State} (h : runInstr s = .next u) :
    ∃ r, decode s.m8 s.x8 (fetchInstr s).1 = .ok r ∧ exec r.1 (fetchInstr s).2 = .next u := by
  simp only [runInstr] at h
  split at h
  · cases h
  · next r hr => exact ⟨r, hr, h⟩

/-- A step is the idle debit or one instruction, and then the end of the iteration. -/
theorem step_cases {s t : State} (h : step s = .next t) :
    ∃ u, t = endIteration u ∧
      (s.wai = true ∧ u = s.debit s.cfg.waiIdleCycles ∨ s.wai = false ∧ runInstr s = .next u) := by
  unfold step iteration at h
  split at h
  · next hw => exact ⟨_, (Host.Outcome.next.inj h).symm, .inl ⟨hw, rfl⟩⟩
  · next hw =>
    split at h
    · next u hu => exact ⟨u, (Host.Outcome.next.inj h).symm, .inr ⟨by simpa using hw, hu⟩⟩
    · cases h
    · cases h

/-! ### Every step is sound -/

theorem fetch8_writes (s : State) : Writes [] s (fetch8 s).2 :=
  (read8_writes s _).trans (setPC_writes _ _)

theorem fetchBytes_writes (n : Nat) (s : State) : Writes [] s (fetchBytes n s).2 := by
  induction n generalizing s with
  | zero => exact .refl s
  | succ n ih => exact (fetch8_writes s).trans (ih _)

theorem fetchInstr_writes (s : State) : Writes [] s (fetchInstr s).2 :=
  (fetch8_writes s).trans (fetchBytes_writes _ _)

theorem runInstr_sound {s u : State} (h : runInstr s = .next u) : Sound s u := by
  obtain ⟨r, -, hexec⟩ := runInstr_cases h
  exact (fetchInstr_writes s).toSound.trans (exec_writes hexec).toSound

theorem setCycles_sound (s : State) (n : Int) : Sound s (s.setCycles n) :=
  .of_eq (by simp) rfl (by simp)

/-- The reset values meet the index-high and the stack-page invariants whatever the state before. -/
theorem resetRegisters_sound (s : State) : Sound s (resetRegisters s) where
  index _ := (indexHighOk_iff _).mpr fun _ => ⟨show hi 0 = 0 by decide, show hi 0 = 0 by decide⟩
  stack _ := (stackPageOk_iff _).mpr fun _ => show hi 0x01FF = 1 by decide
  arrays := id
  rom := rfl
  nvb := rfl
  cfg := rfl

theorem doReset_sound (s : State) : Sound s (doReset s) :=
  (((resetRegisters_sound s).trans (readPointer_writes _ 0 0xFFFC).toSound).trans (setPC_writes _ _).toSound).trans
    (setCycles_sound _ 0)

theorem nmiAck_sound (s : State) : Sound s (nmiAck s) :=
  .of_eq (by simp [nmiAck]) rfl (by simp [nmiAck])

theorem sampleLines_sound (s : State) : Sound s (sampleLines s) := by
  unfold sampleLines
  split
  · exact (Writes.refl s).toSound
  · exact .of_eq (by simp) rfl (by simp)

theorem takeEvent_sound (s : State) : Sound s (takeEvent s) := by
  unfold takeEvent
  split
  · exact doReset_sound s
  split
  · exact (nmiAck_sound s).trans (interrupt_writes _ .nmi).toSound
  split
  · exact (interrupt_writes s .irq).toSound
  · exact (Writes.refl s).toSound

theorem yieldCheck_sound (s : State) : Sound s (yieldCheck s) := by
  unfold yieldCheck
  split
  · exact .of_eq (by simp) rfl (by simp)
  · exact (Writes.refl s).toSound

theorem endIteration_sound (s : State) : Sound s (endIteration s) :=
  ((sampleLines_sound s).trans (takeEvent_sound _)).trans (yieldCheck_sound _)

theorem step_sound {s t : State} (h : step s = .next t) : Sound s t := by
  obtain ⟨u, rfl, ⟨-, rfl⟩ | ⟨-, hrun⟩⟩ := step_cases h
  · exact (debit_writes s _).toSound.trans (endIteration_sound _)
  · exact (runInstr_sound hrun).trans (endIteration_sound u)

/-- The yield test leaves no request (60_exceptions.md R504). -/
theorem yieldCheck_yieldReq (s : State) : (yieldCheck s).yieldReq = false := by
  unfold yieldCheck
  split
  · rfl
  · next h => simpa using h

/-- Settles O10: every step is sound and ends with the yield test. -/
theorem stepKeepsInvariant : Obligations.StepKeepsInvariant := by
  unfold Obligations.StepKeepsInvariant
  rintro s t ⟨hindex, hstack, hmemory, -⟩ h
  have sound := step_sound h
  have hyield : t.yieldReq = false := by
    obtain ⟨u, rfl, -⟩ := step_cases h
    exact yieldCheck_yieldReq _
  refine ⟨sound.index hindex, sound.stack hstack, ?_, by simp [State.yieldOk, hyield]⟩
  rw [memoryOk_iff] at *
  exact sound.arrays hmemory

/-- Settles O12: ROM, NVB and the parameters are fixed by every sound transition. -/
theorem stepKeepsRomBankAndParameters : Obligations.StepKeepsRomBankAndParameters := by
  unfold Obligations.StepKeepsRomBankAndParameters
  intro s t h
  have sound := step_sound h
  exact ⟨sound.rom, sound.nvb, sound.cfg⟩

/-! ### The cycle counter is invisible -/

@[simp] theorem setCycles_credit (s : State) (d n : Int) : (s.credit d).setCycles n = s.setCycles n := rfl

theorem credit_zero (s : State) : s.credit 0 = s :=
  congrArg s.setCycles (Int.add_zero s.cycles)

/-- Two writes of the counter alone differ by a credit. -/
theorem setCycles_eq_credit (s : State) (m n : Int) : s.setCycles n = (s.setCycles m).credit (n - m) :=
  congrArg s.setCycles (by simp)

theorem runInstr_credit {s u : State} (h : runInstr s = .next u) (d : Int) :
    runInstr (s.credit d) = .next (u.credit d) := by
  obtain ⟨r, hdecode, hexec⟩ := runInstr_cases h
  rw [exec_eq_run] at hexec
  obtain rfl := Host.Outcome.next.inj hexec
  simp only [runInstr, credit_frame, fetchInstr_credit, hdecode, exec_eq_run, (Meaning.of r.1).blind]

theorem doReset_credit (s : State) (d : Int) : doReset (s.credit d) = doReset s := by
  have hregisters : resetRegisters (s.credit d) = (resetRegisters s).credit d := rfl
  simp [doReset, hregisters]

theorem sampleLines_credit (s : State) (d : Int) : sampleLines (s.credit d) = (sampleLines s).credit d := by
  simp only [sampleLines, credit_frame]
  split <;> simp

theorem nmiAck_credit (s : State) (d : Int) : nmiAck (s.credit d) = (nmiAck s).credit d := by
  simp [nmiAck]

/-- The event is chosen without the counter; after a reset the counter is 0 in both machines. -/
theorem takeEvent_credit (s : State) (d : Int) : ∃ k, takeEvent (s.credit d) = (takeEvent s).credit k := by
  simp only [takeEvent, credit_frame]
  split
  · exact ⟨0, by rw [doReset_credit, credit_zero]⟩
  split
  · exact ⟨d, by rw [nmiAck_credit, interrupt_credit]⟩
  split
  · exact ⟨d, interrupt_credit s d .irq⟩
  · exact ⟨d, rfl⟩

theorem yieldCheck_credit (s : State) (d : Int) : ∃ k, yieldCheck (s.credit d) = (yieldCheck s).credit k := by
  simp only [yieldCheck, credit_frame]
  split
  · exact ⟨_, setCycles_eq_credit (s.setYieldReq false) _ _⟩
  · exact ⟨d, rfl⟩

theorem endIteration_credit (s : State) (d : Int) : ∃ k, endIteration (s.credit d) = (endIteration s).credit k := by
  obtain ⟨j, hj⟩ := takeEvent_credit (sampleLines s) d
  obtain ⟨k, hk⟩ := yieldCheck_credit (takeEvent (sampleLines s)) j
  exact ⟨k, by rw [endIteration, boundary, sampleLines_credit, hj, hk]; rfl⟩

theorem step_credit {s t : State} (h : step s = .next t) (d : Int) : ∃ k, step (s.credit d) = .next (t.credit k) := by
  obtain ⟨u, rfl, ⟨hwai, rfl⟩ | ⟨hwai, hrun⟩⟩ := step_cases h
  · obtain ⟨k, hk⟩ := endIteration_credit (s.debit s.cfg.waiIdleCycles) d
    exact ⟨k, by simp [step, iteration, idle, hwai, hk]⟩
  · obtain ⟨k, hk⟩ := endIteration_credit u d
    exact ⟨k, by simp [step, iteration, hwai, runInstr_credit hrun d, hk]⟩

/-- Settles O60: a step of a machine with more cycles is the step, with some other count. -/
theorem cyclesAreInvisible : Obligations.CyclesAreInvisible := by
  unfold Obligations.CyclesAreInvisible
  intro s t u n ht hu
  have hs : ({ s with cycles := n } : State) = s.credit (n - s.cycles) := setCycles_eq_credit s s.cycles n
  obtain ⟨k, hk⟩ := step_credit ht (n - s.cycles)
  rw [hs, hk] at hu
  obtain rfl := Host.Outcome.next.inj hu
  rfl

/-! ### The fetch -/

theorem word_toNat_add (w : Word) (n : Nat) : word (w.toNat + n) = w + BitVec.ofNat 16 n :=
  BitVec.eq_of_toNat_eq (by simp [word])

/-- A fetch of bytes none of which is a Tube register: the bytes are memory's own, and the host is not asked. -/
theorem fetchBytes_mem (n : Nat) (s : State)
    (h : ∀ k < n, ∃ p, readTarget s (addr s.pbr (word (s.pc.toNat + k))) = .mem p) :
    (fetchBytes n s).2.host = s.host ∧
      (fetchBytes n s).1 = (List.range n).map fun k => peek s (addr s.pbr (word (s.pc.toNat + k))) := by
  induction n generalizing s with
  | zero => exact ⟨rfl, rfl⟩
  | succ n ih =>
    have hpc : word (s.pc.toNat + 0) = s.pc := by simp [word]
    have hnext (k : Nat) : word ((s.pc + 1).toNat + k) = word (s.pc.toNat + (k + 1)) := by
      rw [word_toNat_add, word_toNat_add]
      apply BitVec.eq_of_toNat_eq
      simp
      omega
    obtain ⟨p, hp⟩ := h 0 (by omega)
    rw [hpc] at hp
    have hfetch : fetch8 s = (peek s (addr s.pbr s.pc), { s with pc := s.pc + 1, cycles := s.cycles - 1 }) := by
      rw [fetch8_eq, fetch8, setPC_host, read8_host _ _ p hp]
    have hrest := ih { s with pc := s.pc + 1, cycles := s.cycles - 1 } fun k hk => by
      rw [hnext]
      exact h (k + 1) (by omega)
    rw [fetchBytes_succ, hfetch]
    refine ⟨hrest.1, ?_⟩
    rw [hrest.2, List.range_succ_eq_map, List.map_cons, List.map_map, hpc]
    refine congrArg _ (List.map_congr_left fun k _ => ?_)
    simp only [hnext, Function.comp_apply, Nat.succ_eq_add_one]
    rfl

/-- Settles O6: one fetch after the other, each at the next offset. -/
theorem fetchReadsConsecutiveBytes : Obligations.FetchReadsConsecutiveBytes := by
  unfold Obligations.FetchReadsConsecutiveBytes
  refine fun n s => ⟨?_, fetchBytes_mem n s⟩
  rw [word_toNat_add]
  exact fetchBytes_eq n s

/-! ### Reset -/

theorem join_eq_word (h l : Byte) : join h l = word (l.toNat + 256 * h.toNat) :=
  BitVec.eq_of_toNat_eq (by
    have := h.isLt
    have := l.isLt
    rw [toNat_join, word, BitVec.toNat_ofNat]
    omega)

/-- A pointer that lies in memory: its two bytes are memory's own, and the read costs two cycles and nothing else. -/
theorem readPointer_mem (bank : Byte) (off : Word) (t : State) (p q : Place)
    (hlow : readTarget t (addr bank off) = .mem p) (hhigh : readTarget t (addr bank (off + 1)) = .mem q) :
    readPointer bank off t = (word ((t.at p).toNat + 256 * (t.at q).toNat), (t.debit 1).debit 1) := by
  have hfirst : read8 (addr bank off) t = (t.at p, t.debit 1) := read8_mem _ t p hlow
  have hsecond : read8 (addr bank (off + 1)) (t.debit 1) = (t.at q, (t.debit 1).debit 1) := by
    have hbyte : (t.debit 1).at q = t.at q := by cases q <;> rfl
    rw [← hbyte]
    exact read8_mem _ (t.debit 1) q hhigh
  rw [readPointer, hfirst, hsecond, join_eq_word]

/-- With the default parameters, a read after the reset of the latches reaches what it reaches in the reset state. -/
theorem readTarget_resetRegisters (s : State) (hcfg : s.cfg = defaultParams) (a : Addr) :
    readTarget (resetRegisters s) a = readTarget State.reset a :=
  readTarget_congr _ _ a rfl hcfg

/-- Settles O16: the vector lies at the end of ROM in the default address map; the rest is the table. -/
theorem resetLeavesTheTable : Obligations.ResetLeavesTheTable := by
  unfold Obligations.ResetLeavesTheTable
  intro s hcfg
  have hlow : readTarget (resetRegisters s) (addr 0 0xFFFC) = .mem (.rom 0x7FFC) :=
    (readTarget_resetRegisters s hcfg _).trans (by decide)
  have hhigh : readTarget (resetRegisters s) (addr 0 (0xFFFC + 1)) = .mem (.rom 0x7FFD) :=
    (readTarget_resetRegisters s hcfg _).trans (by decide)
  rw [doReset, readPointer_mem 0 0xFFFC _ _ _ hlow hhigh]
  rfl

end Sys2Proof.Machine
end

section
/-! PROOFS. The decoder in arithmetic (20_memory.md R81 to R92): the masked address, the windows and the cells as
numbers, and what a byte read and a byte write of each target do. -/

namespace Sys2Proof.Machine

open Sys2Proof.Claims

variable (s : State) (a b : Addr) (v : Byte)

/-! ### The masked address and the windows as numbers -/

/-- Bits 2 to 0 cleared. -/
theorem toNat_and_not_seven : (a &&& ~~~(7 : Addr)).toNat = a.toNat / 8 * 8 := by
  have hshift : a &&& ~~~(7 : Addr) = a >>> 3 <<< 3 := by
    refine BitVec.eq_of_getLsbD_eq fun j hj => ?_
    have hseven : (7 : Addr).getLsbD j = decide (j < 3) := Nat.testBit_two_pow_sub_one 3 j
    rw [BitVec.getLsbD_and, BitVec.getLsbD_not, hseven]
    by_cases h : j < 3
    · simp [h]
    · simp [h, hj, Nat.add_sub_cancel' (Nat.le_of_not_lt h)]
  have := a.isLt
  rw [hshift, BitVec.toNat_shiftLeft, BitVec.toNat_ushiftRight, Nat.shiftRight_eq_div_pow, Nat.shiftLeft_eq]
  omega

theorem inPorts_iff (base : Addr) : inPorts base a = true ↔ atPorts base a.toNat := by
  rw [inPorts, beq_iff_eq, ← BitVec.toNat_inj, toNat_and_not_seven, atPorts]

theorem toNat_and_mask : (a &&& s.mask).toNat = masked s a := by
  unfold State.mask masked
  rw [BitVec.toNat_and]
  split
  · exact Nat.and_two_pow_sub_one_eq_mod a.toNat 16
  · exact Nat.and_two_pow_sub_one_eq_mod a.toNat 19

theorem masked_lt_of_defMode (h : s.banks.defMode = true) : masked s a < 0x10000 := by
  simp only [masked, h, if_true]
  omega

theorem portNumber_eq : a.setWidth 3 = BitVec.ofNat 3 (a.toNat % 8) :=
  BitVec.eq_of_toNat_eq (by simp)

/-! ### The cells as numbers -/

/-- The page and the byte in it do not share a bit. -/
theorem pageMap_eq_pagedCell (w : Paging) (sel : BitVec 3) :
    pageMap s.cfg w sel a = pagedCell s w sel.toNat a.toNat := by
  have hbyte : a.toNat &&& 0x3FFF = a.toNat % 0x4000 := Nat.and_two_pow_sub_one_eq_mod a.toNat 14
  have hlt : a.toNat % 0x4000 < 2 ^ 14 := Nat.mod_lt _ (by decide)
  have hcell : defaultPage sel a = BitVec.ofNat 19 (sel.toNat * 0x4000 + a.toNat % 0x4000) := by
    rw [defaultPage, hbyte, ← Nat.shiftLeft_add_eq_or_of_lt hlt, Nat.shiftLeft_eq]
  rw [pageMap, pagedCell, hcell, BitVec.ofNat_toNat, BitVec.ofNat_toNat, BitVec.setWidth_eq, BitVec.setWidth_eq]

theorem romIndex_eq : romIndex a = a.toNat % 0x8000 := Nat.and_two_pow_sub_one_eq_mod a.toNat 15

theorem toNat_lowPage (n : BitVec 6) : (n.extractLsb' 0 3).toNat = n.toNat % 8 := by simp

theorem toNat_highPage (n : BitVec 6) : (n.extractLsb' 3 3).toNat = n.toNat / 8 := by
  have := n.isLt
  rw [BitVec.extractLsb'_toNat, Nat.shiftRight_eq_div_pow]
  omega

theorem inWindow_eq_within (w : Window) : inWindow w a = within w a.toNat := rfl

/-- The last four steps of the decoder, as numbers (20_memory.md R88 to R92). -/
theorem memPlace_eq_placeOf : memPlace s a = placeOf s a.toNat := by
  simp only [memPlace, placeOf, inWindow_eq_within, pageMap_eq_pagedCell, toNat_lowPage, toNat_highPage, romIndex_eq]

/-! ### What a read and a write reach -/

variable {s a b}

theorem readTarget_tube (h : atPorts s.cfg.tubeBase (masked s a)) :
    readTarget s a = .tube (BitVec.ofNat 3 (masked s a % 8)) := by
  rw [← toNat_and_mask, ← inPorts_iff] at h
  rw [readTarget, if_pos h, portNumber_eq, toNat_and_mask]

theorem readTarget_mem (h : ¬ atPorts s.cfg.tubeBase (masked s a)) :
    readTarget s a = .mem (placeOf s (masked s a)) := by
  rw [← toNat_and_mask, ← inPorts_iff] at h
  rw [readTarget, if_neg h, memPlace_eq_placeOf, toNat_and_mask]

theorem writeTarget_tube (h : atPorts s.cfg.tubeBase (masked s a)) :
    writeTarget s a = .tube (BitVec.ofNat 3 (masked s a % 8)) := by
  rw [← toNat_and_mask, ← inPorts_iff] at h
  rw [writeTarget, if_pos h, portNumber_eq, toNat_and_mask]

theorem writeTarget_bankctl (ht : ¬ atPorts s.cfg.tubeBase (masked s a))
    (hb : atPorts s.cfg.bankctlBase (masked s a)) :
    writeTarget s a = .bankctl (BitVec.ofNat 3 (masked s a % 8)) := by
  rw [← toNat_and_mask, ← inPorts_iff] at ht hb
  rw [writeTarget, if_neg ht, if_pos hb, portNumber_eq, toNat_and_mask]

theorem writeTarget_mem (ht : ¬ atPorts s.cfg.tubeBase (masked s a))
    (hb : ¬ atPorts s.cfg.bankctlBase (masked s a)) :
    writeTarget s a = .mem (placeOf s (masked s a)) := by
  rw [← toNat_and_mask, ← inPorts_iff] at ht hb
  rw [writeTarget, if_neg ht, if_neg hb, memPlace_eq_placeOf, toNat_and_mask]

/-! ### What a byte read and a byte write of each target do -/

theorem read8_tube {reg : BitVec 3} (h : readTarget s a = .tube reg) :
    read8 a s = (tubeAnswer s.host reg, { s with cycles := s.cycles - 1, host := tubeAnswered s.host reg }) := by
  simp only [read8, peek, afterRead, h]
  rfl

theorem write8_tube {reg : BitVec 3} (h : writeTarget s a = .tube reg) :
    write8 a v s = { s with cycles := s.cycles - 1, yieldReq := true, host := tubeWritten s.host reg v } := by
  simp only [write8, h]
  rfl

theorem write8_bankctl {k : BitVec 3} (h : writeTarget s a = .bankctl k) :
    write8 a v s = { s with cycles := s.cycles - 1, banks := bankctlWrite s.cfg k v s.banks } := by
  simp only [write8, h]
  rfl

/-- A write to ROM is dropped (20_memory.md R91). -/
theorem write8_rom {i : Nat} (h : writeTarget s a = .mem (.rom i)) :
    write8 a v s = { s with cycles := s.cycles - 1 } := by
  simp only [write8, h]
  rfl

/-- Settles O18: the decoder's two targets of a read, and what a read of each does. -/
theorem readReachesOneTarget : Obligations.ReadReachesOneTarget := by
  unfold Obligations.ReadReachesOneTarget
  refine fun s a => ⟨fun h => ?_, fun h => ?_⟩
  · exact read8_tube (readTarget_tube h)
  · rw [read8_mem a s _ (readTarget_mem h)]
    cases placeOf s (masked s a) <;> rfl

/-- Settles O19: the decoder's three targets of a write, and what a write of each does. -/
theorem writeReachesOneTarget : Obligations.WriteReachesOneTarget := by
  unfold Obligations.WriteReachesOneTarget
  refine fun s a v => ⟨fun h => ?_, fun ht hb => ?_, fun ht hb => ?_⟩
  · exact write8_tube v (writeTarget_tube h)
  · exact write8_bankctl v (writeTarget_bankctl ht hb)
  · have hplace := writeTarget_mem ht hb
    cases hp : placeOf s (masked s a) with
    | ram i => exact write8_ram a v s i (hp ▸ hplace)
    | rom i => exact write8_rom v (hp ▸ hplace)

/-! ### The mask -/

/-- A byte read depends on the masked address alone. -/
theorem read8_congr_masked (h : masked s a = masked s b) : read8 a s = read8 b s := by
  have haddr : a &&& s.mask = b &&& s.mask := BitVec.eq_of_toNat_eq (by simp only [toNat_and_mask, h])
  have htarget : readTarget s a = readTarget s b := by simp only [readTarget, haddr]
  simp only [read8, peek, afterRead, htarget]

/-- A byte write depends on the masked address alone. -/
theorem write8_congr_masked (h : masked s a = masked s b) : write8 a v s = write8 b v s := by
  have haddr : a &&& s.mask = b &&& s.mask := BitVec.eq_of_toNat_eq (by simp only [toNat_and_mask, h])
  have htarget : writeTarget s a = writeTarget s b := by simp only [writeTarget, haddr]
  simp only [write8, htarget]

theorem masked_addr_of_defMode (bank : Byte) (off : Word) (h : s.banks.defMode = true) :
    masked s (addr bank off) = off.toNat := by
  have := off.isLt
  simp only [masked, h, if_true, toNat_addr]
  omega

theorem masked_addr_of_extended (bank : Byte) (off : Word) (h : s.banks.defMode = false) :
    masked s (addr bank off) = bank.toNat % 8 * 65536 + off.toNat := by
  have := off.isLt
  simp only [masked, h, toNat_addr, Bool.false_eq_true, if_false]
  omega

/-- Settles O22: banks that the mask folds together give one masked address. -/
theorem maskFoldsBanks : Obligations.MaskFoldsBanks := by
  unfold Obligations.MaskFoldsBanks
  refine fun s bank off v => ⟨fun h => ?_, fun h => ?_⟩
  · have hmasked : masked s (addr bank off) = masked s (addr 0 off) := by
      simp only [masked_addr_of_defMode, h]
    exact ⟨read8_congr_masked hmasked, write8_congr_masked v hmasked⟩
  · have hmasked : masked s (addr bank off) = masked s (addr (BitVec.ofNat 8 (bank.toNat % 8)) off) := by
      simp only [masked_addr_of_extended, h, BitVec.toNat_ofNat]
      omega
    exact ⟨read8_congr_masked hmasked, write8_congr_masked v hmasked⟩

/-! ### The default address map -/

/-- Eight registers at an aligned base are a range of addresses. -/
theorem atPorts_iff_range {base : Addr} (n : Nat) (h : base.toNat % 8 = 0) :
    atPorts base n ↔ base.toNat ≤ n ∧ n ≤ base.toNat + 7 := by
  unfold atPorts
  omega

/-- Without a table, PAGE_MAP is byte `n` of the page (decision D16). -/
theorem pagedCell_default (w : Paging) (sel n : Nat) (hcfg : s.cfg = defaultParams) (hsel : sel < 8) :
    pagedCell s w sel n = sel * 0x4000 + n % 0x4000 := by
  have hcell : pagedCell s w sel n = (sel * 0x4000 + n % 0x4000) % 2 ^ 19 := by
    rw [pagedCell, hcfg]
    exact BitVec.toNat_ofNat _ 19
  rw [hcell]
  omega

theorem within_iff (w : Window) (n : Nat) : within w n = true ↔ w.first.toNat ≤ n ∧ n ≤ w.last.toNat := by
  simp [within]

/-- With the default windows, the decoder's places are those of the map. -/
theorem placeOf_default (n : Nat) (hcfg : s.cfg = defaultParams) (hn : s.banks.defMode = true → n < 0x10000) :
    placeOf s n = mapOf s n := by
  have hlow : within s.cfg.lowWin n = true ↔ 0x4000 ≤ n ∧ n ≤ 0x7FFF := by rw [within_iff, hcfg]; rfl
  have hhigh : within s.cfg.highWin n = true ↔ 0x8000 ≤ n ∧ n ≤ 0xBFFF := by rw [within_iff, hcfg]; rfl
  have hrom : within s.cfg.romWin n = true ↔ 0x8000 ≤ n ∧ n ≤ 0xFFFF := by rw [within_iff, hcfg]; rfl
  have hlowBit : s.cfg.lowBit = 0 := by rw [hcfg]; rfl
  have hhighBit : s.cfg.highBit = 1 := by rw [hcfg]; rfl
  have hromBit : s.cfg.romBit = 2 := by rw [hcfg]; rfl
  have hpages := s.banks.banknum.isLt
  have hlowPage := pagedCell_default .low (s.banks.banknum.toNat % 8) n hcfg (by omega)
  have hhighPage := pagedCell_default .high (s.banks.banknum.toNat / 8) n hcfg (by omega)
  simp only [placeOf, mapOf, hlowPage, hhighPage, hlowBit, hhighBit, hromBit]
  -- The decoder goes step by step and the map range by range: `hlow`, `hhigh` and `hrom` say which steps a range
  -- passes, and within a window the remainder of `n` is its distance from the window's base.
  cases hdef : s.banks.defMode
  case true =>
    have hlt := hn hdef
    by_cases h : n < 0x8000
    · have hoff : ¬ within s.cfg.romWin n = true := by rw [hrom]; omega
      simp [h, hoff]
    · have hon : within s.cfg.romWin n = true := by rw [hrom]; omega
      have hbyte : n % 0x8000 = n - 0x8000 := by omega
      simp [h, hon, hbyte]
  case false => grind

/-- The number of a register in its window is its distance from an aligned base. -/
theorem mod_eight_of_atPorts {base : Addr} {n : Nat} (h : atPorts base n) : n % 8 = n - base.toNat := by
  unfold atPorts at h
  omega

/-- Settles O21: by the decoder's order of steps, with the default windows. -/
theorem defaultAddressMap : Obligations.DefaultAddressMap := by
  unfold Obligations.DefaultAddressMap
  intro s a hcfg
  have htube : atPorts s.cfg.tubeBase (masked s a) ↔ 0xFEF8 ≤ masked s a ∧ masked s a ≤ 0xFEFF := by
    rw [hcfg]; exact atPorts_iff_range _ rfl
  have hbankctl : atPorts s.cfg.bankctlBase (masked s a) ↔ 0xFEF0 ≤ masked s a ∧ masked s a ≤ 0xFEF7 := by
    rw [hcfg]; exact atPorts_iff_range _ rfl
  have htubeBase : s.cfg.tubeBase.toNat = 0xFEF8 := by rw [hcfg]; rfl
  have hbankctlBase : s.cfg.bankctlBase.toNat = 0xFEF0 := by rw [hcfg]; rfl
  have hplace := placeOf_default (masked s a) hcfg (masked_lt_of_defMode s a)
  rw [← hplace]
  by_cases ht : atPorts s.cfg.tubeBase (masked s a)
  case pos =>
    rw [if_pos (htube.mp ht), if_pos (htube.mp ht), readTarget_tube ht, writeTarget_tube ht, mod_eight_of_atPorts ht,
      htubeBase]
    exact ⟨rfl, rfl⟩
  case neg =>
    rw [if_neg (htube.not.mp ht), if_neg (htube.not.mp ht), readTarget_mem ht]
    refine ⟨rfl, ?_⟩
    by_cases hb : atPorts s.cfg.bankctlBase (masked s a)
    · rw [if_pos (hbankctl.mp hb), writeTarget_bankctl ht hb, mod_eight_of_atPorts hb, hbankctlBase]
    · rw [if_neg (hbankctl.not.mp hb), writeTarget_mem ht hb]

/-! ### A byte written reads back -/

/-- A write to RAM leaves the decoder alone. -/
theorem readTarget_write8_ram {i : Nat} (h : writeTarget s a = .mem (.ram i)) :
    readTarget (write8 a v s) b = readTarget s b := by
  rw [write8_ram a v s i h]
  exact readTarget_congr _ _ b rfl rfl

theorem peek_mem {p : Place} (h : readTarget s a = .mem p) : peek s a = s.at p := by
  simp only [peek, h]

theorem peek_write8_same {i : Nat} (hwf : s.ram.wf = true) (h : writeTarget s a = .mem (.ram i)) :
    peek (write8 a v s) a = v := by
  rw [peek_mem ((readTarget_write8_ram v h).trans (readTarget_of_write s a _ h)), write8_ram a v s i h]
  exact read_write_same s.ram i v hwf

theorem peek_write8_other {i : Nat} (h : writeTarget s a = .mem (.ram i)) (hb : readTarget s b ≠ .mem (.ram i)) :
    peek (write8 a v s) b = peek s b := by
  have htarget : readTarget (write8 a v s) b = readTarget s b := readTarget_write8_ram v h
  simp only [peek, htarget]
  split
  · rw [write8_ram a v s i h]
  · next p hp =>
    cases p with
    | ram j =>
      refine write8_ram_read a v s j fun hj => hb ?_
      obtain rfl : i = j := by simpa [h] using hj
      exact hp
    | rom j => rw [write8_ram a v s i h]; rfl

/-- Settles O23: by the laws of a byte array, since a write to RAM leaves the decoder alone. -/
theorem writtenByteReadsBack : Obligations.WrittenByteReadsBack := by
  unfold Obligations.WrittenByteReadsBack
  refine fun s a v hwf => ⟨fun i h => ⟨peek_write8_same v hwf h, fun j hj => ?_, fun b hb => ?_⟩, fun i h => ?_⟩
  · exact write8_ram_read a v s j (by simp [h, Ne.symm hj])
  · exact peek_write8_other v h hb
  · exact write8_rom v h

end Sys2Proof.Machine
end

section
/-! PROOFS. The banking latches (20_memory.md R86): the default protocol as numbers. -/

namespace Sys2Proof.Machine

open Sys2Proof.Claims

/-- A table without an entry for the argument answers the default. -/
theorem lookup_of_not_mem {κ τ : Type} [DecidableEq κ] (table : Table κ τ) (d : τ) (k : κ)
    (h : ∀ e ∈ table, e.1 ≠ k) : lookup table d k = d := by
  induction table with
  | nil => rfl
  | cons e rest ih =>
    rw [lookup, if_neg (h e (by simp))]
    exact ih fun f hf => h f (by simp [hf])

/-- A bit shifted in from the right, as a number. -/
theorem shiftLeft_one_or_bit {n : Nat} (l : BitVec n) (b : Bool) :
    (l <<< 1 ||| if b then 1 else 0) = BitVec.ofNat n (2 * l.toNat + num b) := by
  have hdisjoint : l <<< 1 &&& (if b then 1 else 0) = 0#n := by
    refine BitVec.eq_of_getLsbD_eq fun j hj => ?_
    cases b <;> cases j <;> simp
  rw [← BitVec.add_eq_or_of_and_eq_zero _ _ hdisjoint]
  apply BitVec.eq_of_toNat_eq
  cases b <;> simp [num, Nat.shiftLeft_eq, Nat.mul_comm]

/-- The number of a register: bits 2 and 1 select the latch. -/
theorem latchSelect_eq (k : BitVec 3) : k.extractLsb' 1 2 = BitVec.ofNat 2 (k.toNat / 2) :=
  BitVec.eq_of_toNat_eq (by simp [Nat.shiftRight_eq_div_pow])

/-- Settles O20: the latch is selected by the register's number, and the bit shifted in is its parity. -/
theorem latchWriteShiftsOneBit : Obligations.LatchWriteShiftsOneBit := by
  unfold Obligations.LatchWriteShiftsOneBit
  refine ⟨fun c k v l h => ?_, bankctlWrite_any⟩
  have hbit : k.getLsbD 0 = decide (k.toNat % 2 = 1) := by simp [BitVec.getLsbD]
  have hnum : num (decide (k.toNat % 2 = 1)) = k.toNat % 2 := by
    rcases Nat.mod_two_eq_zero_or_one k.toNat with h | h <;> simp [num, h]
  rw [bankctlWrite, lookup_of_not_mem _ _ _ h]
  simp only [defaultBankctl, latchSelect_eq, shiftLeft_one_or_bit, hbit, hnum]
  refine ⟨fun hk => ?_, fun hk => ?_, fun hk => ?_, fun hk => ?_⟩
  all_goals (rw [hk]; rfl)

end Sys2Proof.Machine
end

section
/-! PROOFS. The order of a multi-byte access (20_memory.md R95, R96): the further addresses and the bytes as numbers. -/

namespace Sys2Proof.Machine

open Sys2Proof.Claims

/-- The address of byte `k` in arithmetic (20_memory.md R95). -/
theorem nextAddr_L (a : Addr) (k : Nat) : nextAddr .L a k = BitVec.ofNat 24 (a.toNat + k) :=
  BitVec.eq_of_toNat_eq (by simp [nextAddr])

theorem nextAddr_D (a : Addr) (k : Nat) : nextAddr .D a k = BitVec.ofNat 24 ((a.toNat % 65536 + k) % 65536) :=
  BitVec.eq_of_toNat_eq (by
    have hzero : (0 : Byte).toNat = 0 := rfl
    simp only [nextAddr, bank0, toNat_addr, hzero, toNat_offOf, BitVec.toNat_add, BitVec.toNat_ofNat]
    omega)

theorem lo_eq_ofNat (w : Word) : lo w = BitVec.ofNat 8 (w.toNat % 256) :=
  BitVec.eq_of_toNat_eq (by simp [toNat_lo])

theorem hi_eq_ofNat (w : Word) : hi w = BitVec.ofNat 8 (w.toNat / 256) :=
  BitVec.eq_of_toNat_eq (by
    have := w.isLt
    rw [toNat_hi, BitVec.toNat_ofNat]
    omega)

/-- Settles O24: the bytes of a join are its parts, and each further address is the arithmetic one. -/
theorem multiByteAccessOrder : Obligations.MultiByteAccessOrder := by
  unfold Obligations.MultiByteAccessOrder
  intro cls a v s next b0 b1 b2
  have hnext (k : Nat) : nextAddr cls a k = next k := by
    cases cls with
    | L => exact nextAddr_L a k
    | D => exact nextAddr_D a k
  simp only [memRead, memRead24, memWrite, hnext, toNat_zext, toNat_join, toNat_addr, lo_eq_ofNat, hi_eq_ofNat,
    and_true]
  refine ⟨rfl, rfl, ?_, rfl, ?_, rfl⟩
  · simp only [b1, b0]; omega
  · simp only [b2, b1, b0]; omega

end Sys2Proof.Machine
end

section
/-! PROOFS. The yield after a Tube write (60_exceptions.md R504): what a pending request goes through at the end of an
iteration. -/

namespace Sys2Proof.Machine

open Sys2Proof.Claims

theorem push8_yieldReq (v : Byte) (s : State) (h : s.yieldReq = true) : (push8 v s).yieldReq = true :=
  write8_yieldReq _ v s h

theorem push16_yieldReq (v : Word) (s : State) (h : s.yieldReq = true) : (push16 v s).yieldReq = true :=
  push8_yieldReq _ _ (push8_yieldReq _ s h)

theorem pushFrame_yieldReq (k : Event) (s : State) (h : s.yieldReq = true) : (pushFrame k s).yieldReq = true := by
  unfold pushFrame
  split
  · exact push8_yieldReq _ _ (push16_yieldReq _ s h)
  · exact push8_yieldReq _ _ (push16_yieldReq _ _ (push8_yieldReq _ s h))

/-- An interrupt entry keeps a pending request. -/
theorem interrupt_yieldReq (k : Event) (s : State) (h : s.yieldReq = true) : (interrupt k s).yieldReq = true := by
  simp [interrupt, pushFrame_yieldReq k s h]

theorem sampleLines_yieldReq (s : State) : (sampleLines s).yieldReq = s.yieldReq := by
  unfold sampleLines
  split <;> rfl

/-- Every event but a reset keeps a pending request, and a reset clears the counter. -/
theorem takeEvent_yieldReq (s : State) (h : s.yieldReq = true) :
    (takeEvent s).yieldReq = true ∨ (takeEvent s).cycles ≤ 0 := by
  unfold takeEvent
  split
  · exact .inr (Int.le_refl 0)
  split
  · exact .inl (interrupt_yieldReq .nmi _ h)
  split
  · exact .inl (interrupt_yieldReq .irq s h)
  · exact .inl h

/-- The yield test forfeits what is left of the budget if a request is pending. -/
theorem yieldCheck_cycles (s : State) (h : s.yieldReq = true ∨ s.cycles ≤ 0) : (yieldCheck s).cycles ≤ 0 := by
  unfold yieldCheck
  split
  · exact Int.min_le_right _ _
  · next hclear => exact h.resolve_left hclear

theorem endIteration_cycles (s : State) (h : s.yieldReq = true) : (endIteration s).cycles ≤ 0 :=
  yieldCheck_cycles _ (takeEvent_yieldReq _ ((sampleLines_yieldReq s).trans h))

/-- Settles O14: the boundary keeps the request or resets the counter, and the yield test does the rest. -/
theorem tubeWriteForfeitsTheBudget : Obligations.TubeWriteForfeitsTheBudget := by
  unfold Obligations.TubeWriteForfeitsTheBudget
  refine ⟨fun s a v reg h => by rw [write8_tube v h], fun s t h => ?_, fun s t u hwai hrun hreq h => ?_⟩
  · obtain ⟨w, rfl, -⟩ := step_cases h
    exact yieldCheck_yieldReq _
  · obtain ⟨w, rfl, ⟨hidle, -⟩ | ⟨-, hw⟩⟩ := step_cases h
    · simp [hwai] at hidle
    · obtain rfl := Host.Outcome.next.inj (hrun.symm.trans hw)
      exact endIteration_cycles u hreq

end Sys2Proof.Machine
end

section
/-! PROOFS. The encoding (30_encoding.md R130 to R138): decode and encode are inverse, every opcode decodes, and the
length of an instruction. -/

namespace Sys2Proof.Laws

open Sys2Proof.Machine

/-! ### Decoding what was encoded -/

open OperandDecodes in
/-- The family `OperandDecodes` covers every instruction: its lemmas in the order of the constructors. -/
theorem operandDecodes (i : Instr) : OperandDecodes.Statement i := by
  cases i
  exacts [
    brk _, oraDpXInd _, cop _, oraSr _, tsbDp _, oraDp _, aslDp _, oraDpIndL _, oraImm _, tsbAbs _, oraAbs _, aslAbs _,
    oraAbsL _, bpl _, oraDpIndY _, oraDpInd _, oraSrIndY _, trbDp _, oraDpX _, aslDpX _, oraDpIndLY _, oraAbsY _,
    trbAbs _, oraAbsX _, aslAbsX _, oraAbsLX _, jsrAbs _, andDpXInd _, jsl _, andSr _, bitDp _, andDp _, rolDp _,
    andDpIndL _, andImm _, bitAbs _, andAbs _, rolAbs _, andAbsL _, bmi _, andDpIndY _, andDpInd _, andSrIndY _,
    bitDpX _, andDpX _, rolDpX _, andDpIndLY _, andAbsY _, bitAbsX _, andAbsX _, rolAbsX _, andAbsLX _, eorDpXInd _,
    wdm _, eorSr _, mvp _ _, eorDp _, lsrDp _, eorDpIndL _, eorImm _, jmpAbs _, eorAbs _, lsrAbs _, eorAbsL _, bvc _,
    eorDpIndY _, eorDpInd _, eorSrIndY _, mvn _ _, eorDpX _, lsrDpX _, eorDpIndLY _, eorAbsY _, jmlLong _, eorAbsX _,
    lsrAbsX _, eorAbsLX _, adcDpXInd _, per _, adcSr _, stzDp _, adcDp _, rorDp _, adcDpIndL _, adcImm _, jmpInd _,
    adcAbs _, rorAbs _, adcAbsL _, bvs _, adcDpIndY _, adcDpInd _, adcSrIndY _, stzDpX _, adcDpX _, rorDpX _,
    adcDpIndLY _, adcAbsY _, jmpXInd _, adcAbsX _, rorAbsX _, adcAbsLX _, bra _, staDpXInd _, brl _, staSr _, styDp _,
    staDp _, stxDp _, staDpIndL _, bitImm _, styAbs _, staAbs _, stxAbs _, staAbsL _, bcc _, staDpIndY _, staDpInd _,
    staSrIndY _, styDpX _, staDpX _, stxDpY _, staDpIndLY _, staAbsY _, stzAbs _, staAbsX _, stzAbsX _, staAbsLX _,
    ldyImm _, ldaDpXInd _, ldxImm _, ldaSr _, ldyDp _, ldaDp _, ldxDp _, ldaDpIndL _, ldaImm _, ldyAbs _, ldaAbs _,
    ldxAbs _, ldaAbsL _, bcs _, ldaDpIndY _, ldaDpInd _, ldaSrIndY _, ldyDpX _, ldaDpX _, ldxDpY _, ldaDpIndLY _,
    ldaAbsY _, ldyAbsX _, ldaAbsX _, ldxAbsY _, ldaAbsLX _, cpyImm _, cmpDpXInd _, rep _, cmpSr _, cpyDp _, cmpDp _,
    decDp _, cmpDpIndL _, cmpImm _, cpyAbs _, cmpAbs _, decAbs _, cmpAbsL _, bne _, cmpDpIndY _, cmpDpInd _,
    cmpSrIndY _, pei _, cmpDpX _, decDpX _, cmpDpIndLY _, cmpAbsY _, jmlInd _, cmpAbsX _, decAbsX _, cmpAbsLX _,
    cpxImm _, sbcDpXInd _, sep _, sbcSr _, cpxDp _, sbcDp _, incDp _, sbcDpIndL _, sbcImm _, cpxAbs _, sbcAbs _,
    incAbs _, sbcAbsL _, beq _, sbcDpIndY _, sbcDpInd _, sbcSrIndY _, pea _, sbcDpX _, incDpX _, sbcDpIndLY _,
    sbcAbsY _, jsrXInd _, sbcAbsX _, incAbsX _, sbcAbsLX _, php, aslAcc, phd, clc, incAcc, tcs, plp, rolAcc, pld, sec,
    decAcc, tsc, rti, pha, lsrAcc, phk, cli, phy, tcd, rts, pla, rorAcc, rtl, sei, ply, tdc, dey, txa, phb, tya, txs,
    txy, tay, tax, plb, clv, tsx, tyx, iny, dex, wai, cld, phx, stp, inx, nop, xba, sed, plx, xce]

/-- Settles O1: the opcode byte selects the form, and the form takes the operand bytes back. -/
theorem decodeOfEncode : Obligations.DecodeOfEncode := by
  unfold Obligations.DecodeOfEncode
  exact fun m8 x8 i rest hwf => operandDecodes i m8 x8 rest hwf

/-- Settles O5: each word is the encoding of its instruction, and nothing follows it. -/
theorem opcodeWordsDecode : Obligations.OpcodeWordsDecode := by
  unfold Obligations.OpcodeWordsDecode
  and_intros <;> rfl

/-! ### Encoding what was decoded -/

theorem decodeImm_encodes {eight : Bool} {f : Imm → Instr} {bytes rest : List Byte} {i : Instr}
    (h : decodeImm eight f bytes = .ok (i, rest)) :
    ∃ v : Imm, i = f v ∧ v.fits eight = true ∧ bytes = v.bytes ++ rest :=
  match eight, bytes, h with
  | true, b :: _, rfl => ⟨.byte b, rfl, rfl, rfl⟩
  | false, l :: u :: _, rfl => ⟨.word (join u l), rfl, rfl, by simp [Imm.bytes]⟩

/-- What a form of opcode `op` decodes has that opcode, is well-formed, and has as its operand the bytes taken. -/
theorem decodeForm_encodes {m8 x8 : Bool} {op : Byte} {form : Form} {bytes rest : List Byte} {i : Instr}
    (hmakes : Makes op form) (h : decodeForm m8 x8 form bytes = .ok (i, rest)) :
    i.wf m8 x8 = true ∧ i.opcode = op ∧ bytes = i.operand ++ rest := by
  cases form with
  | op0 j =>
    obtain ⟨hop, hoperand, hwf⟩ := hmakes
    cases h
    exact ⟨hwf m8 x8, hop, by simp [hoperand]⟩
  | op1 f =>
    match bytes, h with
    | b :: _, rfl =>
      obtain ⟨hop, hoperand, hwf⟩ := hmakes b
      exact ⟨hwf m8 x8, hop, by simp [hoperand]⟩
  | op2 f =>
    match bytes, h with
    | l :: u :: _, rfl =>
      obtain ⟨hop, hoperand, hwf⟩ := hmakes (join u l)
      exact ⟨hwf m8 x8, hop, by simp [hoperand, wordBytes]⟩
  | op3 f =>
    match bytes, h with
    | l :: u :: b :: _, rfl =>
      obtain ⟨hop, hoperand, hwf⟩ := hmakes (addr b (join u l))
      exact ⟨hwf m8 x8, hop, by simp [hoperand, addrBytes]⟩
  | blk f =>
    match bytes, h with
    | dst :: src :: _, rfl =>
      obtain ⟨hop, hoperand, hwf⟩ := hmakes dst src
      exact ⟨hwf m8 x8, hop, by simp [hoperand]⟩
  | immM f =>
    obtain ⟨v, rfl, hfits, rfl⟩ := decodeImm_encodes h
    obtain ⟨hop, hoperand, hwf⟩ := hmakes v
    exact ⟨(hwf m8 x8).trans hfits, hop, by rw [hoperand]⟩
  | immX f =>
    obtain ⟨v, rfl, hfits, rfl⟩ := decodeImm_encodes h
    obtain ⟨hop, hoperand, hwf⟩ := hmakes v
    exact ⟨(hwf m8 x8).trans hfits, hop, by rw [hoperand]⟩

/-- Settles O2: the form of an opcode makes instructions of that opcode. -/
theorem encodeOfDecode : Obligations.EncodeOfDecode := by
  unfold Obligations.EncodeOfDecode
  intro m8 x8 bytes rest i h
  cases bytes with
  | nil => cases h
  | cons op operand =>
    obtain ⟨hwf, hop, hoperand⟩ := decodeForm_encodes (formOf_makes op) h
    exact ⟨hwf, by rw [encode, hop, hoperand, List.cons_append]⟩

/-! ### How many bytes a form takes -/

theorem exists_decodeImm {eight : Bool} {f : Imm → Instr} {bytes : List Byte}
    (h : (if eight then 1 else 2) ≤ bytes.length) : ∃ r, decodeImm eight f bytes = .ok r :=
  match eight, bytes, h with
  | true, _ :: _, _ => ⟨_, rfl⟩
  | false, _ :: _ :: _, _ => ⟨_, rfl⟩

/-- A form decodes from as many operand bytes as it has, or more. -/
theorem exists_decodeForm {m8 x8 : Bool} {form : Form} {bytes : List Byte}
    (h : form.operandBytes m8 x8 ≤ bytes.length) : ∃ r, decodeForm m8 x8 form bytes = .ok r :=
  match form, bytes, h with
  | .op0 _, _, _ => ⟨_, rfl⟩
  | .op1 _, _ :: _, _ => ⟨_, rfl⟩
  | .op2 _, _ :: _ :: _, _ => ⟨_, rfl⟩
  | .op3 _, _ :: _ :: _ :: _, _ => ⟨_, rfl⟩
  | .blk _, _ :: _ :: _, _ => ⟨_, rfl⟩
  | .immM _, _, h => exists_decodeImm h
  | .immX _, _, h => exists_decodeImm h

/-- Settles O3: the form of the opcode has the operand bytes it asks for. -/
theorem everyOpcodeDecodes : Obligations.EveryOpcodeDecodes := by
  unfold Obligations.EveryOpcodeDecodes
  intro m8 x8 op bytes hlen
  have hbytes : (formOf op).operandBytes m8 x8 ≤ bytes.length := by
    rw [instrLen] at hlen
    omega
  obtain ⟨⟨i, rest⟩, hdecode⟩ := exists_decodeForm hbytes
  obtain ⟨-, hop, -⟩ := decodeForm_encodes (formOf_makes op) hdecode
  exact ⟨i, rest, hdecode, hop⟩

/-! ### The length of an instruction -/

theorem decodeImm_length {eight : Bool} {f : Imm → Instr} {bytes : List Byte} {r : Instr × List Byte}
    (h : decodeImm eight f bytes = .ok r) : bytes.length = r.2.length + if eight then 1 else 2 :=
  match eight, bytes, h with
  | true, _ :: _, rfl => rfl
  | false, _ :: _ :: _, rfl => rfl

/-- A form takes its operand bytes and leaves the rest. -/
theorem decodeForm_length {m8 x8 : Bool} {form : Form} {bytes : List Byte} {r : Instr × List Byte}
    (h : decodeForm m8 x8 form bytes = .ok r) : bytes.length = r.2.length + form.operandBytes m8 x8 :=
  match form, bytes, h with
  | .op0 _, _, rfl => rfl
  | .op1 _, _ :: _, rfl => rfl
  | .op2 _, _ :: _ :: _, rfl => rfl
  | .op3 _, _ :: _ :: _ :: _, rfl => rfl
  | .blk _, _ :: _ :: _, rfl => rfl
  | .immM _, _, h => decodeImm_length h
  | .immX _, _, h => decodeImm_length h

/-- The operand bytes of a well-formed instruction are as many as its opcode asks for. -/
theorem operand_length {m8 x8 : Bool} {i : Instr} (hwf : i.wf m8 x8 = true) :
    i.operand.length = (formOf i.opcode).operandBytes m8 x8 := by
  simpa using decodeForm_length (operandDecodes i m8 x8 [] hwf)

/-- No format has more than three operand bytes. -/
theorem operandBytes_le (m8 x8 : Bool) (form : Form) : form.operandBytes m8 x8 ≤ 3 := by
  unfold Form.operandBytes
  grind

/-- The form IMM_M (30_encoding.md R131). -/
def isImmM : Form → Bool
  | .immM _ => true
  | _ => false

/-- The form IMM_X (30_encoding.md R131). -/
def isImmX : Form → Bool
  | .immX _ => true
  | _ => false

theorem length_of_isImmM {form : Form} (h : isImmM form = true) (m8 x8 : Bool) :
    1 + form.operandBytes m8 x8 = if m8 then 2 else 3 :=
  match form, h with
  | .immM _, _ => by cases m8 <;> rfl

theorem length_of_isImmX {form : Form} (h : isImmX form = true) (m8 x8 : Bool) :
    1 + form.operandBytes m8 x8 = if x8 then 2 else 3 :=
  match form, h with
  | .immX _, _ => by cases x8 <;> rfl

theorem operandBytes_of_not_imm {form : Form} (hm : ¬ isImmM form = true) (hx : ¬ isImmX form = true) (m8 x8 : Bool) :
    form.operandBytes m8 x8 = form.operandBytes true true := by
  cases form with
  | immM => exact absurd rfl hm
  | immX => exact absurd rfl hx
  | op0 | op1 | op2 | op3 | blk => rfl

/-- The opcodes whose form has a property, in one pass over the opcode map. -/
def opcodesOf (p : Form → Bool) : List Byte :=
  (opcodeMap.zipIdx.filter fun e => p e.1).map fun e => BitVec.ofNat 8 e.2

theorem mem_opcodesOf {p : Form → Bool} {op : Byte} : op ∈ opcodesOf p ↔ p (formOf op) = true := by
  have hget (k : Nat) (hk : k < 256) : opcodeMap[k]? = some (formOf (BitVec.ofNat 8 k)) := by
    rw [List.getElem?_eq_getElem (by rwa [opcodeMap_length])]
    simp [formOf, Nat.mod_eq_of_lt hk]
  simp only [opcodesOf, List.mem_map, List.mem_filter, Prod.exists, List.mem_zipIdx_iff_getElem?]
  constructor
  · rintro ⟨form, k, ⟨hform, hp⟩, rfl⟩
    have hk : k < 256 := opcodeMap_length ▸ (List.getElem?_eq_some_iff.mp hform).1
    obtain rfl := Option.some.inj ((hget k hk).symm.trans hform)
    exact hp
  · intro hp
    have hop : BitVec.ofNat 8 op.toNat = op := by simp
    exact ⟨formOf op, op.toNat, ⟨by rw [hget _ op.isLt, hop], hp⟩, hop⟩

theorem opcodesOf_isImmM : opcodesOf isImmM = [0x09#8, 0x29, 0x49, 0x69, 0x89, 0xA9, 0xC9, 0xE9] := rfl

theorem opcodesOf_isImmX : opcodesOf isImmX = [0xA0#8, 0xA2, 0xC0, 0xE0] := rfl

/-- The IMM_M opcodes of 30_encoding.md R132. -/
theorem mem_immM_opcodes {op : Byte} :
    op ∈ [0x09#8, 0x29, 0x49, 0x69, 0x89, 0xA9, 0xC9, 0xE9] ↔ isImmM (formOf op) = true := by
  rw [← opcodesOf_isImmM, mem_opcodesOf]

/-- The IMM_X opcodes of 30_encoding.md R132. -/
theorem mem_immX_opcodes {op : Byte} : op ∈ [0xA0#8, 0xA2, 0xC0, 0xE0] ↔ isImmX (formOf op) = true := by
  rw [← opcodesOf_isImmX, mem_opcodesOf]

/-- Settles O4: the two lists hold the IMM_M and the IMM_X opcodes, and every other form has a fixed length. -/
theorem instructionLengthFollowsWidth : Obligations.InstructionLengthFollowsWidth := by
  unfold Obligations.InstructionLengthFollowsWidth
  refine ⟨fun m8 x8 i hwf => ?_, fun m8 x8 op => ⟨?immM, ?immX, ?fixed, ?least, ?most⟩⟩
  · rw [encode, List.length_cons, operand_length hwf, instrLen, Nat.add_comm]
  case immM => exact fun hop => length_of_isImmM (mem_immM_opcodes.mp hop) m8 x8
  case immX => exact fun hop => length_of_isImmX (mem_immX_opcodes.mp hop) m8 x8
  case fixed =>
    intro hop
    obtain ⟨hm, hx⟩ : ¬ isImmM (formOf op) = true ∧ ¬ isImmX (formOf op) = true := by
      rw [← mem_immM_opcodes, ← mem_immX_opcodes]
      exact not_or.mp (List.mem_append.not.mp hop)
    rw [instrLen, operandBytes_of_not_imm hm hx, instrLen]
  case least => exact Nat.le_add_right 1 _
  case most => exact Nat.add_le_add_left (operandBytes_le m8 x8 _) 1

end Sys2Proof.Laws
end

section
/-! PROOFS. The addressing modes (40_addressing.md R162 to R178): the effective addresses and the extra cycles of the
resolvers as numbers, and what the read of a source operand leaves alone. -/

namespace Sys2Proof.Machine

open Sys2Proof.Claims

/-! ### Words and addresses as numbers -/

theorem word_toNat (w : Word) : word w.toNat = w := by
  rw [word, BitVec.ofNat_toNat, BitVec.setWidth_eq]

theorem addr_eq_ofNat (b : Byte) (w : Word) : addr b w = BitVec.ofNat 24 (b.toNat * 65536 + w.toNat) := by
  rw [← toNat_addr, BitVec.ofNat_toNat, BitVec.setWidth_eq]

theorem bank0_eq_ofNat (w : Word) : bank0 w = BitVec.ofNat 24 w.toNat := by
  have hzero : (0 : Byte).toNat = 0 := rfl
  rw [bank0, addr_eq_ofNat, hzero, Nat.zero_mul, Nat.zero_add]

/-- A 24-bit sum carries into the bank. -/
theorem add_wide_eq_ofNat (a : Addr) (r : Word) : a + wide r = BitVec.ofNat 24 (a.toNat + r.toNat) :=
  BitVec.eq_of_toNat_eq (by simp [toNat_wide])

/-! ### The sums of DP and S -/

section Sums

variable (s : State) (d : Byte)

theorem toNat_dpSum : (dpSum s d).toNat = (s.dp.toNat + d.toNat) % 65536 := by
  rw [dpSum, BitVec.toNat_add, toNat_zext]

theorem toNat_srSum : (srSum s d).toNat = (s.s.toNat + d.toNat) % 65536 := by
  rw [srSum, BitVec.toNat_add, toNat_zext]

/-- In emulation mode the index is added to the operand byte in 8 bits (decisions D53, D54). -/
theorem toNat_dpIndexed (r : Word) : (dpIndexed s d r).toNat =
    if s.e then (s.dp.toNat + (d.toNat + r.toNat) % 256) % 65536 else (s.dp.toNat + d.toNat + r.toNat) % 65536 := by
  unfold dpIndexed
  split
  · simp only [BitVec.toNat_add, toNat_zext, toNat_lo]
    omega
  · simp only [BitVec.toNat_add, toNat_zext]
    omega

end Sums

/-! ### The extra cycles -/

theorem lo_eq_zero_iff (w : Word) : lo w = 0 ↔ w.toNat % 256 = 0 := by
  rw [← BitVec.toNat_inj, toNat_lo]
  rfl

theorem dpCharge_eq (s : State) :
    dpCharge s = { s with cycles := s.cycles - (if s.dp.toNat % 256 = 0 then 0 else 1) } := by
  simp only [dpCharge, lo_eq_zero_iff]
  split
  · simp
  · rfl

/-- The index leaves the page of the operand when the high byte of the sum is another. -/
theorem indexCharge_eq (w r : Word) (s : State) :
    indexCharge w r s = if s.p.ex = false ∨ w.toNat / 256 ≠ (w.toNat + r.toNat) % 65536 / 256
      then { s with cycles := s.cycles - 1 } else s := by
  have hcond : (!s.p.ex || hi w != hi (w + r)) = true ↔
      s.p.ex = false ∨ w.toNat / 256 ≠ (w.toNat + r.toNat) % 65536 / 256 := by
    simp [← BitVec.toNat_inj, toNat_hi]
  simp only [indexCharge, hcond]
  rfl

/-! ### The effective addresses -/

/-- Settles O25: the sums of DP and S as numbers. -/
theorem directPageAddress : Obligations.DirectPageAddress := by
  unfold Obligations.DirectPageAddress
  intro s d
  simp only [resolve, bank0_eq_ofNat, toNat_dpSum, toNat_dpIndexed, toNat_srSum, dpCharge_eq, and_self]

/-- Settles O26: a 16-bit sum stays in its bank, and a 24-bit sum carries. -/
theorem absoluteAddress : Obligations.AbsoluteAddress := by
  unfold Obligations.AbsoluteAddress
  intro s w l
  have hwrap : w.toNat % 65536 = w.toNat := Nat.mod_eq_of_lt w.isLt
  simp only [resolve, addr_eq_ofNat, BitVec.toNat_add, add_wide_eq_ofNat, indexCharge_eq, hwrap, and_self]

/-- Operand byte FFH in emulation mode: the pointer's high byte is at DP itself (decision D55). -/
theorem indirectYPointer_wrapped {s : State} {d : Byte} (h : s.e = true ∧ d.toNat = 255) :
    indirectYPointer d s =
      let low := read8 (BitVec.ofNat 24 ((s.dp.toNat + 255) % 65536)) s
      let high := read8 (BitVec.ofNat 24 s.dp.toNat) low.2
      (word (low.1.toNat + 256 * high.1.toNat), high.2) := by
  obtain ⟨he, hd⟩ := h
  obtain rfl : d = 0xFF := BitVec.eq_of_toNat_eq hd
  simp [indirectYPointer, he, join_eq_word, bank0_eq_ofNat]

theorem indirectYPointer_direct {s : State} {d : Byte} (h : ¬ (s.e = true ∧ d.toNat = 255)) :
    indirectYPointer d s = memRead .w16 .D (BitVec.ofNat 24 ((s.dp.toNat + d.toNat) % 65536)) s := by
  have hcond : ¬ (s.e && d == 0xFF) = true := by simpa [← BitVec.toNat_inj] using h
  rw [indirectYPointer, if_neg hcond, bank0_eq_ofNat, toNat_dpSum]

/-- Settles O27: the address of each pointer as a number, and the bank and the index added to what it holds. -/
theorem indirectAddress : Obligations.IndirectAddress := by
  unfold Obligations.IndirectAddress
  intro s d charged
  have hcharge : dpCharge s = charged := dpCharge_eq s
  simp only [resolve, hcharge, bank0_eq_ofNat, toNat_dpSum, toNat_dpIndexed, toNat_srSum, add_wide_eq_ofNat,
    toNat_addr, true_and]
  refine ⟨?dpInd, ?dpXInd, fun hwrap => ?wrapped, fun hdirect => ?direct⟩
  case dpInd | dpXInd => rw [addr_eq_ofNat, Nat.add_zero]
  case wrapped => rw [indirectYPointer_wrapped (s := charged) hwrap]
  case direct => rw [indirectYPointer_direct (s := charged) hdirect]

/-! ### The read of a source operand -/

/-- The cycle of a mode that adds DP (70_reset_and_hazards.md R621). -/
def dpCost (s : State) : Nat := if s.dp.toNat % 256 = 0 then 0 else 1

/-- The cycle of `a,X` and `a,Y` (70_reset_and_hazards.md R622). -/
def indexCost (s : State) (w r : Word) : Nat :=
  if s.p.ex = false ∨ w.toNat / 256 ≠ (w.toNat + r.toNat) % 65536 / 256 then 1 else 0

theorem dpCharge_cycles (s : State) : (dpCharge s).cycles = s.cycles - dpCost s := by
  rw [dpCharge_eq, dpCost]
  split <;> rfl

theorem indexCharge_cycles (w r : Word) (s : State) : (indexCharge w r s).cycles = s.cycles - indexCost s w r := by
  rw [indexCharge_eq, indexCost]
  split <;> simp

theorem indirectYPointer_cycles (d : Byte) (s : State) : (indirectYPointer d s).2.cycles = s.cycles - 2 := by
  unfold indirectYPointer
  split
  · simp only [read8_cycles]
    omega
  · exact memRead_cycles .w16 _ _ _

/-- What a resolver costs: the extra cycle of its mode, and one for each byte of the pointer. -/
def resolveCost (s : State) : AddrMode → Nat
  | .dp _ | .dpX _ | .dpY _ => dpCost s
  | .dpInd _ | .dpXInd _ | .dpIndY _ => dpCost s + 2
  | .dpIndL _ | .dpIndLY _ => dpCost s + 3
  | .sr _ => 0
  | .srIndY _ => 2
  | .abs _ | .absL _ | .absLX _ => 0
  | .absX w => indexCost s w s.x
  | .absY w => indexCost s w s.y

theorem resolve_cycles (m : AddrMode) (s : State) : (resolve m s).2.cycles = s.cycles - resolveCost s m := by
  cases m with
  | dp | dpX | dpY => exact dpCharge_cycles s
  | dpInd | dpXInd =>
    simp only [resolve, resolveCost, memRead_cycles, Width.bytes, dpCharge_cycles]
    omega
  | dpIndY =>
    simp only [resolve, resolveCost, indirectYPointer_cycles, dpCharge_cycles]
    omega
  | dpIndL | dpIndLY =>
    simp only [resolve, resolveCost, memRead24_cycles, dpCharge_cycles]
    omega
  | srIndY => exact memRead_cycles .w16 _ _ _
  | absX w => exact indexCharge_cycles w s.x s
  | absY w => exact indexCharge_cycles w s.y s
  | sr | abs | absL | absLX => exact (Int.sub_zero _).symm

theorem widthOf_bytes (eight : Bool) : (widthOf eight).bytes = if eight then 1 else 2 := by
  cases eight <;> rfl

theorem operandAt_cycles (eight : Bool) (m : AddrMode) (s : State) :
    (operandAt eight (.mem m) s).2.cycles = s.cycles - resolveCost s m - (if eight then 1 else 2 : Nat) := by
  rw [← widthOf_bytes, ← resolve_cycles]
  exact memRead_cycles _ _ _ _

theorem toNat_trunc_widthOf (eight : Bool) (v : Word) : ((widthOf eight).trunc v).toNat = part eight v := by
  rw [toNat_trunc]
  cases eight <;> rfl

theorem operandAt_imm (eight : Bool) (v : Imm) (s : State) :
    operandAt eight (.imm v) s = (word (part eight v.value), s) := by
  rw [← toNat_trunc_widthOf, word_toNat]
  rfl

/-- A source operand read at a width fits it. -/
theorem memRead_toNat_lt (eight : Bool) (cls : Wrap) (a : Addr) (s : State) :
    (memRead (widthOf eight) cls a s).1.toNat < span eight := by
  cases eight with
  | true =>
    have hbyte : (memRead .w8 cls a s).1.toNat = (read8 a s).1.toNat := toNat_zext _
    exact hbyte ▸ (read8 a s).1.isLt
  | false => exact BitVec.isLt _

/-- The read of a source operand changes at most the cycle counter and the host's side. -/
theorem operandAt_eq_readBy (eight : Bool) (o : Operand) (s : State) :
    (operandAt eight o s).2 = readBy s (operandAt eight o s).2 := by
  apply State.ext_fields <;> simp [operandAt, readBy]

/-- Settles O28: an operand in memory is resolved and then read at its width; the two costs add up. -/
theorem operandReadAndItsCost : Obligations.OperandReadAndItsCost := by
  unfold Obligations.OperandReadAndItsCost
  intro s eight direct crossing extra
  have hextra (m : AddrMode) : extra m = resolveCost s m := by cases m <;> rfl
  refine ⟨fun v => operandAt_imm eight v s, fun m => ⟨rfl, operandAt_eq_readBy eight _ s, ?_, ?_⟩⟩
  · exact memRead_toNat_lt eight _ _ _
  · rw [hextra]
    exact operandAt_cycles eight m s

end Sys2Proof.Machine
end

section
/-! PROOFS. The rows of an instruction rule, and a register written at its width with n and z, as numbers
(43_alu.md R250, 10_state.md R31, R32). -/

namespace Sys2Proof.Machine

open Sys2Proof.Claims

/-! ### The rows of a form -/

/-- What a form's rows have of one instruction: its opcode and tag are listed, or its opcode is not. -/
def rowOk {α τ : Type} [DecidableEq τ] (form : Instr → Option α) (tag : α → τ) (rows : List (Byte × τ)) (i : Instr) :
    Bool :=
  match form i with
  | some o => rows.contains (i.opcode, tag o)
  | none => !(rows.map Prod.fst).contains i.opcode

theorem rowsAre_of_rowOk {α τ : Type} [DecidableEq τ] {form : Instr → Option α} {tag : α → τ}
    {rows : List (Byte × τ)} (h : ∀ i, rowOk form tag rows i = true) : rowsAre form tag rows := by
  constructor
  · intro i o hform
    simpa [rowOk, hform] using h i
  · intro i hmem
    have hrow := h i
    cases hform : form i with
    | some o => rfl
    | none =>
      simp only [rowOk, hform, Bool.not_eq_true', List.contains_eq_mem, decide_eq_false_iff_not] at hrow
      exact absurd hmem hrow

/-! ### A register written at its width, with n and z -/

theorem sign_widthOf (eight : Bool) (v : Word) :
    (widthOf eight).sign v = decide (span eight / 2 ≤ v.toNat % span eight) := by
  have hv := v.isLt
  rw [Width.sign, BitVec.getLsbD, Nat.testBit_eq_decide_div_mod_eq]
  cases eight with
  | true =>
    simp only [widthOf, if_true, Width.bits, span]
    exact decide_eq_decide.mpr (by omega)
  | false =>
    simp only [widthOf, Bool.false_eq_true, if_false, Width.bits, span]
    exact decide_eq_decide.mpr (by omega)

theorem trunc_widthOf_beq_zero (eight : Bool) (v : Word) :
    ((widthOf eight).trunc v == 0) = decide (v.toNat % span eight = 0) := by
  rw [Bool.beq_eq_decide_eq]
  refine decide_eq_decide.mpr ?_
  rw [← BitVec.toNat_inj, toNat_trunc_widthOf]
  rfl

/-- `SetNZ` in arithmetic (43_alu.md R250). -/
theorem setNZ_widthOf (eight : Bool) (v : Word) (f : Flags) : setNZ (widthOf eight) v f = nzOf eight v.toNat f := by
  rw [setNZ, nzOf, sign_widthOf, trunc_widthOf_beq_zero]

variable (t : State) (v : Word)

theorem setNZ_wM (f : Flags) : setNZ t.wM v f = nzOf t.m8 v.toNat f := setNZ_widthOf t.m8 v f

theorem setNZ_wX (f : Flags) : setNZ t.wX v f = nzOf t.x8 v.toNat f := setNZ_widthOf t.x8 v f

theorem setAcc_a_eq_accOf : (t.setAcc v).a = accOf t v.toNat := by
  rw [setAcc_a, accOf]
  split
  · rw [join_eq_word, toNat_hi, toNat_lo, Nat.mul_comm, Nat.add_comm]
  · exact (word_toNat v).symm

theorem trunc_wX_eq_idxOf : t.wX.trunc v = idxOf t v.toNat := by
  rw [← word_toNat (t.wX.trunc v), State.wX, toNat_trunc_widthOf]
  rfl

/-- The accumulator takes a value at width wM. -/
theorem setAcc_setNZ_eq :
    (t.setAcc v).setNZ t.wM v = { t with a := accOf t v.toNat, p := nzOf t.m8 v.toNat t.p } := by
  apply State.ext_fields <;> simp [setAcc_a_eq_accOf, setNZ_wM]

/-- X takes a value at width wX. -/
theorem putX_setNZ_eq : (t.putX v).setNZ t.wX v = { t with x := idxOf t v.toNat, p := nzOf t.x8 v.toNat t.p } := by
  apply State.ext_fields <;> simp [trunc_wX_eq_idxOf, setNZ_wX]

/-- Y takes a value at width wX. -/
theorem putY_setNZ_eq : (t.putY v).setNZ t.wX v = { t with y := idxOf t v.toNat, p := nzOf t.x8 v.toNat t.p } := by
  apply State.ext_fields <;> simp [trunc_wX_eq_idxOf, setNZ_wX]

end Sys2Proof.Machine
end

section
/-! PROOFS. Loads and stores (41_load_store.md R200 to R206): the rows of each rule, the operation that exec runs for
them, and its result. -/

namespace Sys2Proof.Machine

open Sys2Proof.Claims

/-! ### Loads -/

section Loads

variable {i : Instr} {o : Operand} (s : State)

theorem exec_of_ldaForm (h : ldaForm i = some o) : exec i s = .next (lda o s) := by
  unfold ldaForm at h
  split at h <;> cases h <;> rfl

theorem exec_of_ldxForm (h : ldxForm i = some o) : exec i s = .next (ldx o s) := by
  unfold ldxForm at h
  split at h <;> cases h <;> rfl

theorem exec_of_ldyForm (h : ldyForm i = some o) : exec i s = .next (ldy o s) := by
  unfold ldyForm at h
  split at h <;> cases h <;> rfl

variable (o)

/-- The read of the operand leaves the width, the accumulator and the flags as they were. -/
theorem lda_eq : lda o s =
    let v := operandAt s.m8 o s
    { readBy s v.2 with a := accOf s v.1.toNat, p := nzOf s.m8 v.1.toNat s.p } := by
  have hread := operandAt_eq_readBy s.m8 o s
  have hlda : lda o s = ((operandAt s.m8 o s).2.setAcc (operandAt s.m8 o s).1).setNZ s.wM (operandAt s.m8 o s).1 := rfl
  rw [hlda, hread]
  exact setAcc_setNZ_eq (readBy s _) _

theorem ldx_eq : ldx o s =
    let v := operandAt s.x8 o s
    { readBy s v.2 with x := idxOf s v.1.toNat, p := nzOf s.x8 v.1.toNat s.p } := by
  have hread := operandAt_eq_readBy s.x8 o s
  have hldx : ldx o s = ((operandAt s.x8 o s).2.putX (operandAt s.x8 o s).1).setNZ s.wX (operandAt s.x8 o s).1 := rfl
  rw [hldx, hread]
  exact putX_setNZ_eq (readBy s _) _

theorem ldy_eq : ldy o s =
    let v := operandAt s.x8 o s
    { readBy s v.2 with y := idxOf s v.1.toNat, p := nzOf s.x8 v.1.toNat s.p } := by
  have hread := operandAt_eq_readBy s.x8 o s
  have hldy : ldy o s = ((operandAt s.x8 o s).2.putY (operandAt s.x8 o s).1).setNZ s.wX (operandAt s.x8 o s).1 := rfl
  rw [hldy, hread]
  exact putY_setNZ_eq (readBy s _) _

end Loads

/-- Settles O29: a load reads its operand, and then its register takes the operand with n and z. -/
theorem loadResults : Obligations.LoadResults := by
  unfold Obligations.LoadResults
  refine ⟨rowsAre_of_rowOk fun i => ?lda, rowsAre_of_rowOk fun i => ?ldx, rowsAre_of_rowOk fun i => ?ldy,
    fun i o s => ⟨fun h => ?_, fun h => ?_, fun h => ?_⟩⟩
  case lda | ldx | ldy => cases i <;> rfl
  · rw [exec_of_ldaForm s h, lda_eq]
  · rw [exec_of_ldxForm s h, ldx_eq]
  · rw [exec_of_ldyForm s h, ldy_eq]

/-! ### Stores -/

section Stores

variable {i : Instr} {m : AddrMode} (s : State)

theorem exec_of_staForm (h : staForm i = some m) : exec i s = .next (sta m s) := by
  unfold staForm at h
  split at h <;> cases h <;> rfl

theorem exec_of_stxForm (h : stxForm i = some m) : exec i s = .next (stx m s) := by
  unfold stxForm at h
  split at h <;> cases h <;> rfl

theorem exec_of_styForm (h : styForm i = some m) : exec i s = .next (sty m s) := by
  unfold styForm at h
  split at h <;> cases h <;> rfl

theorem exec_of_stzForm (h : stzForm i = some m) : exec i s = .next (stz m s) := by
  unfold stzForm at h
  split at h <;> cases h <;> rfl

/-- The part of a word that its width has is written as the word is. -/
@[simp] theorem memWrite_trunc (w : Width) (cls : Wrap) (a : Addr) (v : Word) (t : State) :
    memWrite w cls a (w.trunc v) t = memWrite w cls a v t := by
  cases w <;> simp [memWrite]

/-- The bytes of an operand, low byte first (20_memory.md R96). -/
theorem memWrite_widthOf (eight : Bool) (cls : Wrap) (a : Addr) (v : Word) (t : State) :
    memWrite (widthOf eight) cls a v t =
      let first := write8 a (BitVec.ofNat 8 (v.toNat % 256)) t
      if eight then first else write8 (nextAddr cls a 1) (BitVec.ofNat 8 (v.toNat / 256)) first := by
  rw [← lo_eq_ofNat, ← hi_eq_ofNat]
  cases eight <;> rfl

/-- Zero is its own part at either width. -/
theorem stz_eq_storeOp_trunc (m : AddrMode) : stz m s = storeOp m s.wM (s.wM.trunc 0) s := by
  have hzero : s.wM.trunc 0 = 0 := BitVec.zero_and
  rw [hzero, stz]

/-- A store writes memory, and no register and no flag. -/
theorem storeOp_eq_writeBy (m : AddrMode) (w : Width) (v : Word) : storeOp m w v s = writeBy s (storeOp m w v s) := by
  apply State.ext_fields <;> simp [writeBy]

/-- What a store of a word's part leaves: the address is resolved, and then the bytes are written. -/
theorem storeOp_trunc_eq (m : AddrMode) (eight : Bool) (v : Word) :
    storeOp m (widthOf eight) ((widthOf eight).trunc v) s =
      let r := resolve m s
      let first := write8 r.1.ea (BitVec.ofNat 8 (v.toNat % 256)) r.2
      let next := nextAddr r.1.cls r.1.ea 1
      writeBy s (if eight then first else write8 next (BitVec.ofNat 8 (v.toNat / 256)) first) := by
  rw [storeOp_eq_writeBy, storeOp, memWrite_trunc, memWrite_widthOf]

end Stores

/-- Settles O30: each store runs StoreOp on a register's part, or on 0, which is its own part at either width. -/
theorem storeResults : Obligations.StoreResults := by
  unfold Obligations.StoreResults
  refine ⟨rowsAre_of_rowOk fun i => ?sta, rowsAre_of_rowOk fun i => ?stx, rowsAre_of_rowOk fun i => ?sty,
    rowsAre_of_rowOk fun i => ?stz, fun i m s => ⟨fun h => ?_, fun h => ?_, fun h => ?_, fun h => ?_⟩⟩
  case sta | stx | sty | stz => cases i <;> rfl
  · rw [exec_of_staForm s h]
    exact congrArg _ (storeOp_trunc_eq s m s.m8 s.a)
  · rw [exec_of_stxForm s h]
    exact congrArg _ (storeOp_trunc_eq s m s.x8 s.x)
  · rw [exec_of_styForm s h]
    exact congrArg _ (storeOp_trunc_eq s m s.x8 s.y)
  · rw [exec_of_stzForm s h, stz_eq_storeOp_trunc]
    exact congrArg _ (storeOp_trunc_eq s m s.m8 0)

end Sys2Proof.Machine
end

section
/-! PROOFS. Read-modify-write (44_rmw.md R290 to R302): the new value of each function as a number, and the operation
that exec runs for each rule in memory. -/

namespace Sys2Proof.Machine

open Sys2Proof.Claims

/-! ### The rows in memory -/

section Rows

variable {i : Instr} {m : AddrMode} (s : State)

theorem exec_of_shiftMemForm {p : Shift × AddrMode} (h : shiftMemForm i = some p) :
    exec i s = .next (rmwMem (shiftFn p.1) p.2 s) := by
  unfold shiftMemForm at h
  split at h <;> cases h <;> rfl

theorem exec_of_tsbForm (h : tsbForm i = some m) : exec i s = .next (rmwMem (tsbFn s.acc) m s) := by
  unfold tsbForm at h
  split at h <;> cases h <;> rfl

theorem exec_of_trbForm (h : trbForm i = some m) : exec i s = .next (rmwMem (trbFn s.acc) m s) := by
  unfold trbForm at h
  split at h <;> cases h <;> rfl

end Rows

/-! ### The new value as a number -/

/-- The part of a number's word: the number modulo the width. -/
theorem part_word (eight : Bool) (n : Nat) : part eight (word n) = n % span eight := by
  rw [part, word, BitVec.toNat_ofNat]
  cases eight <;> simp [span]

theorem trunc_word (eight : Bool) (n : Nat) : (widthOf eight).trunc (word n) = word (n % span eight) := by
  rw [← part_word, ← toNat_trunc_widthOf, word_toNat]

theorem shiftLeft_one_eq_word (v : Word) : v <<< 1 = word (2 * v.toNat) :=
  BitVec.eq_of_toNat_eq (by
    rw [BitVec.toNat_shiftLeft, Nat.shiftLeft_eq, word, BitVec.toNat_ofNat, Nat.mul_comm])

theorem shiftRight_one_eq_word (v : Word) : v >>> 1 = word (v.toNat / 2) := by
  rw [← word_toNat (v >>> 1), BitVec.toNat_ushiftRight, Nat.shiftRight_eq_div_pow]

/-- The old carry comes in at bit 0, which a shift to the left leaves clear. -/
theorem shiftLeft_one_or_carry (v : Word) (c : Bool) :
    (v <<< 1 ||| if c then (1 : Word) else 0) = word (2 * v.toNat + num c) := by
  cases c with
  | false => exact BitVec.or_zero.trans (shiftLeft_one_eq_word v)
  | true =>
    have hone : (1 : Word).toNat = 1 := rfl
    have hnum : num true = 1 := rfl
    have heven : 2 * v.toNat % 2 ^ 16 = (v.toNat % 2 ^ 15) <<< 1 := by rw [Nat.shiftLeft_eq]; omega
    refine BitVec.eq_of_toNat_eq ?_
    rw [if_pos rfl, shiftLeft_one_eq_word, BitVec.toNat_or, hone, word, BitVec.toNat_ofNat, heven,
      ← Nat.shiftLeft_add_eq_or_of_lt (by decide), ← heven, word, BitVec.toNat_ofNat, hnum]
    omega

/-- The old carry comes in at the width's top bit, which a shift to the right leaves clear. -/
theorem shiftRight_one_or_carry (eight : Bool) (v : Word) (c : Bool) (hv : v.toNat < span eight) :
    (v >>> 1 ||| if c then (1 : Word) <<< ((widthOf eight).bits - 1) else 0) =
      word (v.toNat / 2 + num c * (span eight / 2)) := by
  cases c with
  | false =>
    have hzero : v.toNat / 2 + num false * (span eight / 2) = v.toNat / 2 := by simp [num]
    rw [hzero]
    exact BitVec.or_zero.trans (shiftRight_one_eq_word v)
  | true =>
    have hcarry : ((1 : Word) <<< ((widthOf eight).bits - 1)).toNat = 1 <<< ((widthOf eight).bits - 1) := by
      cases eight <;> rfl
    have hhalf : span eight / 2 = 2 ^ ((widthOf eight).bits - 1) := by cases eight <;> rfl
    have hlow : v.toNat / 2 ^ 1 < 2 ^ ((widthOf eight).bits - 1) := by
      have heven : span eight % 2 = 0 := by cases eight <;> rfl
      omega
    have hor : (v >>> 1 ||| (1 : Word) <<< ((widthOf eight).bits - 1)).toNat =
        v.toNat / 2 + num true * (span eight / 2) := by
      rw [BitVec.toNat_or, hcarry, BitVec.toNat_ushiftRight, Nat.shiftRight_eq_div_pow, Nat.or_comm,
        ← Nat.shiftLeft_add_eq_or_of_lt hlow, Nat.shiftLeft_eq, Nat.add_comm, hhalf]
      rfl
    rw [← hor, word_toNat, if_pos rfl]

/-- The new value of a shift, rotate, increment or decrement (44_rmw.md R291 to R296). -/
theorem shiftFn_result (op : Shift) (eight : Bool) (v : Word) (f : Flags) (hv : v.toNat < span eight) :
    (shiftFn op (widthOf eight) v f).1 = word (shiftResult op eight v.toNat f.c) := by
  cases op with
  | asl => exact (congrArg _ (shiftLeft_one_eq_word v)).trans (trunc_word ..)
  | lsr => exact shiftRight_one_eq_word v
  | rol => exact (congrArg _ (shiftLeft_one_or_carry v f.c)).trans (trunc_word ..)
  | ror => exact shiftRight_one_or_carry eight v f.c hv
  | inc =>
    have hsum : v + 1 = word (v.toNat + 1) := BitVec.eq_of_toNat_eq (by simp [word])
    exact (congrArg _ hsum).trans (trunc_word ..)
  | dec =>
    have hdiff : v - 1 = word (v.toNat + 65535) := BitVec.eq_of_toNat_eq (by simp [word, Nat.add_comm])
    have hmod : (v.toNat + 65535) % span eight = (v.toNat + span eight - 1) % span eight := by
      have hspan : span eight = 256 ∨ span eight = 65536 := by cases eight <;> decide
      obtain h | h := hspan
      · rw [h]; omega
      · rw [h]; omega
    exact (congrArg _ hdiff).trans ((trunc_word ..).trans (congrArg word hmod))

/-- TSB sets the accumulator's bits (44_rmw.md R301). -/
theorem tsbFn_result (acc v : Word) (w : Width) (f : Flags) :
    (tsbFn acc w v f).1 = word (v.toNat ||| acc.toNat) := by
  rw [← BitVec.toNat_or, word_toNat]
  rfl

/-- TRB resets the accumulator's bits (44_rmw.md R302). -/
theorem trbFn_result (acc v : Word) (eight : Bool) (f : Flags) (hv : v.toNat < span eight) :
    (trbFn acc (widthOf eight) v f).1 = word (v.toNat - (v.toNat &&& acc.toNat)) := by
  have hdisjoint : (v &&& ~~~acc) &&& (v &&& acc) = 0#16 := by
    ext j hj
    cases hacc : acc[j] <;> simp [hacc]
  have hsplit : (v &&& ~~~acc) + (v &&& acc) = v := by
    rw [BitVec.add_eq_or_of_and_eq_zero _ _ hdisjoint]
    ext j hj
    cases hacc : acc[j] <;> simp [hacc]
  have hle : v &&& acc ≤ v := by
    rw [BitVec.le_def, BitVec.toNat_and]
    exact Nat.and_le_left
  have hclear : (v &&& ~~~acc).toNat = v.toNat - (v.toNat &&& acc.toNat) := by
    rw [eq_sub_of_add_eq hsplit, BitVec.toNat_sub_of_le hle, BitVec.toNat_and]
  rw [← hclear, word_toNat]
  refine BitVec.eq_of_toNat_eq ((toNat_trunc_widthOf ..).trans (Nat.mod_eq_of_lt ?_))
  omega

end Sys2Proof.Machine
end

section
/-! PROOFS. The write of a data operand (70_reset_and_hazards.md R611): what it leaves unchanged, for every instruction
that writes its operand in memory. -/

namespace Sys2Proof.Machine

open Sys2Proof.Claims

/-! ### What the write of an operand reaches -/

section Reaches

variable {s u : State} {m : AddrMode} {eight : Bool} {v : Word}

/-- The latches after a byte write depend on the latches and the parameters alone. -/
theorem write8_banks_congr (a : Addr) (b : Byte) (hb : s.banks = u.banks) (hc : s.cfg = u.cfg) :
    (write8 a b s).banks = (write8 a b u).banks := by
  simp only [write8, writeTarget_congr s u a hb hc]
  split <;> simp [hb, hc]

/-- The write of an operand by `u`, at the address that its mode gives in `s`. -/
def writeOperand (s : State) (m : AddrMode) (eight : Bool) (v : Word) (u : State) : State :=
  memWrite (widthOf eight) (resolve m s).1.cls (resolve m s).1.ea v u

/-- What a byte write keeps wherever it reaches no target of some kind, the write of an operand keeps if neither of its
bytes reaches one. -/
theorem writeOperand_keeps {α : Type} (f : State → α) (kind : WriteTarget → Prop)
    (hkeep : ∀ a b t, ¬ kind (writeTarget t a) → f (write8 a b t) = f t) (hb : u.banks = s.banks)
    (hc : u.cfg = s.cfg) (hfree : ∀ g, kind g → ¬ operandReaches s m eight v g) :
    f (writeOperand s m eight v u) = f u := by
  have hbanks : (resolve m s).2.banks = u.banks := by simp [hb]
  have hcfg : (resolve m s).2.cfg = u.cfg := by simp [hc]
  have first := hkeep (resolve m s).1.ea (lo v) u fun hg =>
    hfree _ hg (.inl (writeTarget_congr _ _ _ hbanks hcfg))
  cases eight with
  | true => exact first
  | false =>
    have second := hkeep (nextAddr (resolve m s).1.cls (resolve m s).1.ea 1) (hi v)
      (write8 (resolve m s).1.ea (lo v) u) fun hg => hfree _ hg (.inr ⟨rfl, by
        rw [← lo_eq_ofNat]
        exact writeTarget_congr _ _ _ (write8_banks_congr _ _ hbanks hcfg) (by simp [hc])⟩)
    exact second.trans first

end Reaches

/-! ### The state before the write -/

/-- The operand's address is resolved, it may have been read, and n, z and c may be set; nothing else has changed. -/
def ReadyToWrite (s u : State) : Prop := u = { readBy s u with p := { s.p with n := u.p.n, z := u.p.z, c := u.p.c } }

theorem ReadyToWrite.fields {s u : State} (h : ReadyToWrite s u) :
    u.banks = s.banks ∧ u.cfg = s.cfg ∧ u.yieldReq = s.yieldReq ∧ u.ram = s.ram := by
  rw [h]
  exact ⟨rfl, rfl, rfl, rfl⟩

/-- The frame of the write: of the registers and flags, n, z and c alone may differ. -/
theorem ReadyToWrite.writeOperand_eq {s u : State} (h : ReadyToWrite s u) (m : AddrMode) (eight : Bool) (v : Word) :
    let t := writeOperand s m eight v u
    t = { writeBy s t with p := { s.p with n := t.p.n, z := t.p.z, c := t.p.c } } := by
  rw [h]
  apply State.ext_fields <;> simp [writeBy, readBy, writeOperand]

theorem readyToWrite_resolve (m : AddrMode) (s : State) : ReadyToWrite s (resolve m s).2 := by
  unfold ReadyToWrite
  apply State.ext_fields <;> simp [readBy]

/-- A read-modify-write function sets none but n, z and c. -/
def SetsNZC (f : Width → Word → Flags → Word × Flags) : Prop :=
  ∀ w v g, (f w v g).2 = { g with n := (f w v g).2.n, z := (f w v g).2.z, c := (f w v g).2.c }

theorem shiftFn_setsNZC (op : Shift) : SetsNZC (shiftFn op) := fun _ _ _ => by cases op <;> rfl

theorem tsbFn_setsNZC (acc : Word) : SetsNZC (tsbFn acc) := fun _ _ _ => rfl

theorem trbFn_setsNZC (acc : Word) : SetsNZC (trbFn acc) := fun _ _ _ => rfl

/-- A read-modify-write before its write: the read, the charge and the flags. -/
def rmwReady (f : Width → Word → Flags → Word × Flags) (m : AddrMode) (s : State) : State :=
  ((operandAt s.m8 (.mem m) s).2.debit 1).setP (f s.wM (operandAt s.m8 (.mem m) s).1 s.p).2

theorem readyToWrite_rmwReady {f : Width → Word → Flags → Word × Flags} (hf : SetsNZC f) (m : AddrMode) (s : State) :
    ReadyToWrite s (rmwReady f m s) := by
  unfold ReadyToWrite
  apply State.ext_fields
  case h_p => exact hf ..
  all_goals simp [readBy, rmwReady, operandAt]

/-! ### The instructions that write their operand -/

/-- The instruction completes with the write of its operand by `u`, which has the old flags if it is a store. -/
structure CompletesByWrite (i : Instr) (s : State) (m : AddrMode) (eight : Bool) (v : Word) (u : State) : Prop where
  ready : ReadyToWrite s u
  exec_eq : exec i s = .next (writeOperand s m eight v u)
  store_p : shiftMemForm i = none → tsbForm i = none → trbForm i = none → u.p = s.p

section Writers

variable {i : Instr} {s : State} {m : AddrMode} {eight : Bool} {v : Word}

theorem completesByWrite_of_storeOp
    (hexec : exec i s = .next (storeOp m (widthOf eight) ((widthOf eight).trunc v) s)) :
    CompletesByWrite i s m eight v (resolve m s).2 where
  ready := readyToWrite_resolve m s
  exec_eq := hexec.trans (congrArg _ (memWrite_trunc ..))
  store_p _ _ _ := by simp

theorem completesByWrite_of_rmwMem {f : Width → Word → Flags → Word × Flags} (hexec : exec i s = .next (rmwMem f m s))
    (hf : SetsNZC f) (hv : (f s.wM (operandAt s.m8 (.mem m) s).1 s.p).1 = v)
    (hrow : ¬ (shiftMemForm i = none ∧ tsbForm i = none ∧ trbForm i = none)) :
    CompletesByWrite i s m s.m8 v (rmwReady f m s) where
  ready := readyToWrite_rmwReady hf m s
  exec_eq := hv ▸ hexec
  store_p h1 h2 h3 := absurd ⟨h1, h2, h3⟩ hrow

/-- Every instruction that writes its operand completes by that write, of the value that its rule gives. -/
theorem exists_completesByWrite (h : writesOperand s i = some (m, eight, v)) :
    ∃ u, CompletesByWrite i s m eight v u := by
  have hacc : s.acc.toNat = part s.m8 s.a := toNat_trunc_widthOf s.m8 s.a
  have hold (m) : (operandAt s.m8 (.mem m) s).1.toNat < span s.m8 := memRead_toNat_lt ..
  unfold writesOperand at h
  split at h <;> cases h
  case h_1 => exact ⟨_, completesByWrite_of_storeOp (exec_of_staForm s ‹_›)⟩
  case h_2 => exact ⟨_, completesByWrite_of_storeOp (exec_of_stxForm s ‹_›)⟩
  case h_3 => exact ⟨_, completesByWrite_of_storeOp (exec_of_styForm s ‹_›)⟩
  case h_4 => exact ⟨_, completesByWrite_of_storeOp (stz_eq_storeOp_trunc s m ▸ exec_of_stzForm s ‹_›)⟩
  case h_5 =>
    exact ⟨_, completesByWrite_of_rmwMem (exec_of_shiftMemForm s ‹_›) (shiftFn_setsNZC _)
      (shiftFn_result _ _ _ _ (hold _)) (by simp_all)⟩
  case h_6 =>
    exact ⟨_, completesByWrite_of_rmwMem (exec_of_tsbForm s ‹_›) (tsbFn_setsNZC _) (hacc ▸ tsbFn_result _ _ _ _)
      (by simp_all)⟩
  case h_7 =>
    exact ⟨_, completesByWrite_of_rmwMem (exec_of_trbForm s ‹_›) (trbFn_setsNZC _)
      (hacc ▸ trbFn_result _ _ _ _ (hold _)) (by simp_all)⟩

end Writers

/-- Settles O31: before the write no field but n, z, c, the cycle counter and the host's side has changed, and the write
changes the latches, the yield request and a RAM cell only where a byte of the operand reaches. -/
theorem writersChangeOnlyTheirOperand : Obligations.WritersChangeOnlyTheirOperand := by
  unfold Obligations.WritersChangeOnlyTheirOperand
  intro i s m eight v h
  obtain ⟨u, hready, hexec, hstore⟩ := exists_completesByWrite h
  obtain ⟨hbanks, hcfg, hyield, hram⟩ := hready.fields
  have hp : (writeOperand s m eight v u).p = u.p := by simp [writeOperand]
  refine ⟨_, hexec, hready.writeOperand_eq m eight v, fun h1 h2 h3 => hp.trans (hstore h1 h2 h3),
    fun hfree => ?banks, fun hfree => ?yield, fun n hfree => ?ram⟩
  case banks =>
    rw [← hbanks]
    exact writeOperand_keeps State.banks (∃ k, · = .bankctl k)
      (fun a b t hn => write8_banks a b t fun k hk => hn ⟨k, hk⟩) hbanks hcfg fun _ ⟨k, hk⟩ => hk ▸ hfree k
  case yield =>
    rw [← hyield]
    exact writeOperand_keeps State.yieldReq (∃ reg, · = .tube reg)
      (fun a b t hn => write8_yieldReq_eq a b t fun reg hr => hn ⟨reg, hr⟩) hbanks hcfg
      fun _ ⟨reg, hr⟩ => hr ▸ hfree reg
  case ram =>
    rw [← hram]
    exact writeOperand_keeps (·.ram.read n) (· = .mem (.ram n)) (fun a b t hn => write8_ram_read a b t n hn) hbanks hcfg
      fun _ hg => hg ▸ hfree

end Sys2Proof.Machine
end

section
/-! PROOFS. Transfers and block moves (42_transfer_blockmove.md R220 to R236): what each shared operation leaves, as
numbers. -/

namespace Sys2Proof.Machine

open Sys2Proof.Claims

/-! ### Transfers -/

section Transfers

variable (s : State) (v : Word)

/-- In emulation mode SH stays 01H (decision D71). -/
theorem stackFrom_eq (e : Bool) : stackFrom e v = if e then word (0x100 + v.toNat % 256) else v := by
  have hpage : join 1 (lo v) = word (0x100 + v.toNat % 256) := by
    rw [join_eq_word, toNat_lo, Nat.add_comm]
    rfl
  rw [stackFrom, hpage]

/-- TXS and TCS write S and no flag. -/
theorem setS_stackFrom_eq :
    s.setS (stackFrom s.e v) = { s with s := if s.e then word (0x100 + v.toNat % 256) else v } := by
  rw [stackFrom_eq]
  rfl

theorem setNZ_w16_eq : s.setNZ .w16 v = { s with p := nzOf false v.toNat s.p } :=
  congrArg s.setP (setNZ_widthOf false v s.p)

/-- XBA: AL and AH change places, and n and z are those of the new AL at 8 bits. -/
theorem exchangeAcc_eq :
    exchangeAcc s = { s with
      a := word (s.a.toNat % 256 * 256 + s.a.toNat / 256), p := nzOf true (s.a.toNat / 256) s.p } := by
  have ha : join (lo s.a) (hi s.a) = word (s.a.toNat % 256 * 256 + s.a.toNat / 256) := by
    rw [join_eq_word, toNat_lo, toNat_hi, Nat.add_comm, Nat.mul_comm]
  have hp : setNZ .w8 (zext (hi s.a)) s.p = nzOf true (s.a.toNat / 256) s.p := by
    rw [← toNat_hi, ← toNat_zext]
    exact setNZ_widthOf true _ _
  rw [← ha, ← hp]
  rfl

end Transfers

/-- Settles O41: a transfer runs one of five operations, each of which writes its register and at most n and z. -/
theorem transferResults : Obligations.TransferResults := by
  unfold Obligations.TransferResults
  refine ⟨by unfold codesAre; decide, ?_⟩
  intro s toX toY toA toS
  have toX_eq (v : Word) : transferX v s = toX v := putX_setNZ_eq s v
  have toY_eq (v : Word) : transferY v s = toY v := putY_setNZ_eq s v
  have toA_eq (v : Word) : transferAcc v s = toA v := setAcc_setNZ_eq s v
  have toS_eq (v : Word) : s.setS (stackFrom s.e v) = toS v := setS_stackFrom_eq s v
  exact ⟨congrArg _ (toX_eq s.a), congrArg _ (toY_eq s.a), congrArg _ (toA_eq s.x), congrArg _ (toA_eq s.y),
    congrArg _ (toX_eq s.s), congrArg _ (toS_eq s.x), congrArg _ (toY_eq s.x), congrArg _ (toX_eq s.y),
    congrArg _ (setNZ_w16_eq (s.setDP s.a) s.a), congrArg _ (setNZ_w16_eq (s.setA s.dp) s.dp),
    congrArg _ (toS_eq s.a), congrArg _ (setNZ_w16_eq (s.setA s.s) s.s), congrArg _ (exchangeAcc_eq s)⟩

/-! ### Block moves -/

section BlockMoves

variable (s : State)

/-- A step of a register taken in 16 bits and then cut to wX is the step taken at wX. -/
theorem trunc_wX_add (r delta : Word) : s.wX.trunc (r + delta) = idxOf s (r.toNat + delta.toNat) := by
  have hmod : (r.toNat + delta.toNat) % 65536 % span s.x8 = (r.toNat + delta.toNat) % span s.x8 :=
    Nat.mod_mod_of_dvd _ (by cases s.x8 <;> decide)
  rw [trunc_wX_eq_idxOf, BitVec.toNat_add]
  exact congrArg word hmod

/-- The count is spent when it goes below 0. -/
theorem sub_one_eq_ones_iff (count : Word) : count - 1 = 0xFFFF ↔ count.toNat = 0 := by
  rw [← BitVec.toNat_inj]
  bv_omega

/-- A byte moved from one address to another changes what a write may change, and no register and no flag. -/
theorem write8_read8_eq_writeBy (src dst : Addr) :
    write8 dst (read8 src s).1 (read8 src s).2 = writeBy s (write8 dst (read8 src s).1 (read8 src s).2) := by
  apply State.ext_fields <;> simp [writeBy]

/-- One byte is moved, the registers go on, and PC goes back to the instruction unless the count is spent
(decision D67). -/
theorem blockMove_eq (delta : Word) (dst src : Byte) :
    blockMove delta dst src s =
      let b := read8 (BitVec.ofNat 24 (src.toNat * 65536 + s.x.toNat)) s
      let t := write8 (BitVec.ofNat 24 (dst.toNat * 65536 + s.y.toNat)) b.1 b.2
      { writeBy s t with
        dbr := dst
        x := idxOf s (s.x.toNat + delta.toNat)
        y := idxOf s (s.y.toNat + delta.toNat)
        a := word (s.a.toNat + 65535)
        pc := if s.a.toNat = 0 then s.pc else word (s.pc.toNat + 65536 - 3) } := by
  have hcount : s.a - 1 = word (s.a.toNat + 65535) := (sub_eq_add_neg _ _).trans (word_toNat_add _ _).symm
  have hback : s.pc - 3 = word (s.pc.toNat + 65536 - 3) := (sub_eq_add_neg _ _).trans (word_toNat_add _ _).symm
  simp only [blockMove, sub_one_eq_ones_iff, addr_eq_ofNat]
  rw [write8_read8_eq_writeBy, ← hcount, ← hback, ← trunc_wX_add, ← trunc_wX_add]
  split <;> rfl

end BlockMoves

/-- Settles O42: MVN is the move with step 1, and MVP the one with step -1, which is 65535 in 16 bits. -/
theorem blockMoveMovesOneByte : Obligations.BlockMoveMovesOneByte := by
  unfold Obligations.BlockMoveMovesOneByte
  refine ⟨fun _ _ => ⟨rfl, rfl⟩, fun dst src s => ⟨?mvn, ?mvp⟩⟩
  case mvn => exact congrArg Host.Outcome.next (blockMove_eq s 1 dst src)
  case mvp => exact congrArg Host.Outcome.next (blockMove_eq s (-1) dst src)

end Sys2Proof.Machine
end

section
/-! PROOFS. Arithmetic, logic and compare (43_alu.md R250 to R265): the rows of each rule, and the operation that exec
runs for them. -/

namespace Sys2Proof.Machine

open Sys2Proof.Claims

/-! ### The operations of the rows -/

section Rows

variable {i : Instr} {o : Operand} {m : AddrMode} (s : State)

theorem exec_of_adcForm (h : adcForm i = some o) : exec i s = .next (adc o s) := by
  unfold adcForm at h
  split at h <;> cases h <;> rfl

theorem exec_of_sbcForm (h : sbcForm i = some o) : exec i s = .next (sbc o s) := by
  unfold sbcForm at h
  split at h <;> cases h <;> rfl

theorem exec_of_cmpForm (h : cmpForm i = some o) : exec i s = .next (compareAcc o s) := by
  unfold cmpForm at h
  split at h <;> cases h <;> rfl

theorem exec_of_cpxForm (h : cpxForm i = some o) : exec i s = .next (compareX o s) := by
  unfold cpxForm at h
  split at h <;> cases h <;> rfl

theorem exec_of_cpyForm (h : cpyForm i = some o) : exec i s = .next (compareY o s) := by
  unfold cpyForm at h
  split at h <;> cases h <;> rfl

theorem exec_of_andForm (h : andForm i = some o) : exec i s = .next (logic (· &&& ·) o s) := by
  unfold andForm at h
  split at h <;> cases h <;> rfl

theorem exec_of_oraForm (h : oraForm i = some o) : exec i s = .next (logic (· ||| ·) o s) := by
  unfold oraForm at h
  split at h <;> cases h <;> rfl

theorem exec_of_eorForm (h : eorForm i = some o) : exec i s = .next (logic (· ^^^ ·) o s) := by
  unfold eorForm at h
  split at h <;> cases h <;> rfl

theorem exec_of_bitForm (h : bitForm i = some m) : exec i s = .next (bitMem m s) := by
  unfold bitForm at h
  split at h <;> cases h <;> rfl

end Rows

/-! ### The two operands as numbers -/

theorem part_lt (eight : Bool) (v : Word) : part eight v < span eight :=
  Nat.mod_lt _ (by cases eight <;> decide)

theorem operandAt_toNat_lt (eight : Bool) (o : Operand) (s : State) : (operandAt eight o s).1.toNat < span eight := by
  cases o with
  | imm v => exact (toNat_trunc_widthOf eight v.value).symm ▸ part_lt eight v.value
  | mem m => exact memRead_toNat_lt eight _ _ _

theorem toNat_acc (s : State) : s.acc.toNat = part s.m8 s.a := toNat_trunc_widthOf s.m8 s.a

theorem acc_toNat_lt (s : State) : s.acc.toNat < span s.m8 := (toNat_acc s).symm ▸ part_lt s.m8 s.a

/-! ### The rows of logic and BIT -/

theorem rowsAre_andForm : rowsAre andForm modeOf (groupRows 0x20) :=
  rowsAre_of_rowOk fun i => by cases i <;> rfl

theorem rowsAre_oraForm : rowsAre oraForm modeOf (groupRows 0x00) :=
  rowsAre_of_rowOk fun i => by cases i <;> rfl

theorem rowsAre_eorForm : rowsAre eorForm modeOf (groupRows 0x40) :=
  rowsAre_of_rowOk fun i => by cases i <;> rfl

theorem rowsAre_bitForm : rowsAre bitForm memMode [(0x24, .d), (0x2C, .a), (0x34, .dX), (0x3C, .aX)] :=
  rowsAre_of_rowOk fun i => by cases i <;> rfl

/-! ### Logic and BIT -/

/-- A bitwise operation of words, which on numbers is `g`, puts its result at width wM, with n and z. -/
theorem logic_eq {f : Word → Word → Word} {g : Nat → Nat → Nat} (hfg : ∀ x y, (f x y).toNat = g x.toNat y.toNat)
    (o : Operand) (s : State) :
    logic f o s =
      let v := operandAt s.m8 o s
      let r := g (part s.m8 s.a) v.1.toNat
      { readBy s v.2 with a := accOf s r, p := nzOf s.m8 r s.p } := by
  have hlogic : logic f o s =
      ((operandAt s.m8 o s).2.setAcc (f s.acc (operandAt s.m8 o s).1)).setNZ s.wM
        (f s.acc (operandAt s.m8 o s).1) := rfl
  rw [hlogic, operandAt_eq_readBy, ← toNat_acc]
  dsimp only
  rw [← hfg]
  exact setAcc_setNZ_eq (readBy s _) _

theorem and_beq_zero (a v : Word) : (a &&& v == 0) = decide (a.toNat &&& v.toNat = 0) := by
  rw [Bool.beq_eq_decide_eq]
  refine decide_eq_decide.mpr ?_
  rw [← BitVec.toNat_inj, BitVec.toNat_and]
  rfl

theorem topBit_widthOf (eight : Bool) (v : Word) (hv : v.toNat < span eight) :
    v.getLsbD ((widthOf eight).bits - 1) = decide (span eight / 2 ≤ v.toNat) :=
  (sign_widthOf eight v).trans (by rw [Nat.mod_eq_of_lt hv])

theorem secondBit_widthOf (eight : Bool) (v : Word) (hv : v.toNat < span eight) :
    v.getLsbD ((widthOf eight).bits - 2) = decide (span eight / 4 ≤ v.toNat % (span eight / 2)) := by
  rw [BitVec.getLsbD, Nat.testBit_eq_decide_div_mod_eq]
  cases eight with
  | true =>
    simp only [widthOf, if_true, Width.bits, span] at hv ⊢
    exact decide_eq_decide.mpr (by omega)
  | false =>
    simp only [widthOf, Bool.false_eq_true, if_false, Width.bits, span] at hv ⊢
    exact decide_eq_decide.mpr (by omega)

/-- The flags of BIT: the memory forms take n and v from the operand's two top bits (decision D62). -/
theorem bitTest_eq (eight memory : Bool) (a v : Word) (f : Flags) (hv : v.toNat < span eight) :
    bitTest (widthOf eight) memory a v f =
      { f with
        z := decide (a.toNat &&& v.toNat = 0)
        n := if memory then decide (span eight / 2 ≤ v.toNat) else f.n
        v := if memory then decide (span eight / 4 ≤ v.toNat % (span eight / 2)) else f.v } := by
  rw [bitTest, and_beq_zero, topBit_widthOf eight v hv, secondBit_widthOf eight v hv]

theorem bitMem_eq (m : AddrMode) (s : State) :
    bitMem m s =
      let v := operandAt s.m8 (.mem m) s
      { readBy s v.2 with
        p := { s.p with
          z := decide (part s.m8 s.a &&& v.1.toNat = 0)
          n := decide (span s.m8 / 2 ≤ v.1.toNat)
          v := decide (span s.m8 / 4 ≤ v.1.toNat % (span s.m8 / 2)) } } := by
  have hbit : bitMem m s =
      (operandAt s.m8 (.mem m) s).2.setP (bitTest (widthOf s.m8) true s.acc (operandAt s.m8 (.mem m) s).1 s.p) := rfl
  rw [hbit, operandAt_eq_readBy, bitTest_eq _ _ _ _ _ (operandAt_toNat_lt s.m8 (.mem m) s), toNat_acc]
  rfl

theorem bitImmediate_eq (v : Imm) (s : State) :
    bitImmediate v s =
      { s with p := { s.p with z := decide (part s.m8 s.a &&& part s.m8 v.value = 0) } } := by
  have hval : (s.wM.trunc v.value).toNat = part s.m8 v.value := toNat_trunc_widthOf s.m8 v.value
  have hflags := bitTest_eq s.m8 false s.acc (s.wM.trunc v.value) s.p (hval ▸ part_lt s.m8 v.value)
  rw [hval, toNat_acc] at hflags
  exact congrArg s.setP hflags

/-- Settles O37: the result of a bitwise operation is that of the operands' numbers. -/
theorem logicAndBitResults : Obligations.LogicAndBitResults := by
  unfold Obligations.LogicAndBitResults
  refine ⟨rowsAre_andForm, rowsAre_oraForm, rowsAre_eorForm, rowsAre_bitForm, fun _ => rfl, fun s =>
    ⟨fun i o => ⟨fun h => ?_, fun h => ?_, fun h => ?_⟩, fun i m h => ?_, fun v => ?_⟩⟩
  · exact (exec_of_andForm s h).trans (congrArg _ (logic_eq BitVec.toNat_and o s))
  · exact (exec_of_oraForm s h).trans (congrArg _ (logic_eq BitVec.toNat_or o s))
  · exact (exec_of_eorForm s h).trans (congrArg _ (logic_eq BitVec.toNat_xor o s))
  · exact (exec_of_bitForm s h).trans (congrArg _ (bitMem_eq m s))
  · exact congrArg _ (bitImmediate_eq v s)

/-! ### Compare -/

/-- The difference of two numbers of the width, modulo it. -/
theorem toNat_trunc_sub (eight : Bool) (a b : Word) (hb : b.toNat < span eight) :
    ((widthOf eight).trunc (a - b)).toNat = (a.toNat + span eight - b.toNat) % span eight := by
  rw [toNat_trunc_widthOf, part, BitVec.toNat_sub]
  cases eight with
  | true =>
    simp only [span, if_true] at hb ⊢
    omega
  | false =>
    simp only [span, Bool.false_eq_true, if_false] at hb ⊢
    omega

theorem nzOf_mod (eight : Bool) (n : Nat) (f : Flags) : nzOf eight (n % span eight) f = nzOf eight n f := by
  simp only [nzOf, Nat.mod_mod]

/-- The flags of a compare, always binary (decision D61). -/
theorem cmpFlags_eq (eight : Bool) (a b : Word) (f : Flags) (hb : b.toNat < span eight) :
    cmpFlags (widthOf eight) a b f =
      { nzOf eight (a.toNat + span eight - b.toNat) f with c := decide (b.toNat ≤ a.toNat) } := by
  rw [cmpFlags, setNZ_widthOf, toNat_trunc_sub eight a b hb, nzOf_mod]

/-- A compare of a register's part with an operand of the same width, which CMP, CPX and CPY share. -/
theorem compare_eq (eight : Bool) (reg : Word) (o : Operand) (s : State) :
    (operandAt eight o s).2.setP
        (cmpFlags (widthOf eight) ((widthOf eight).trunc reg) (operandAt eight o s).1 s.p) =
      let v := operandAt eight o s
      let a := part eight reg
      { readBy s v.2 with
        p := { nzOf eight (a + span eight - v.1.toNat) s.p with c := decide (v.1.toNat ≤ a) } } := by
  rw [cmpFlags_eq _ _ _ _ (operandAt_toNat_lt eight o s), toNat_trunc_widthOf, operandAt_eq_readBy]
  rfl

/-- Settles O36: the three compares differ in the register and the width alone. -/
theorem compareResults : Obligations.CompareResults := by
  unfold Obligations.CompareResults
  refine ⟨rowsAre_of_rowOk fun i => ?cmp, rowsAre_of_rowOk fun i => ?cpx, rowsAre_of_rowOk fun i => ?cpy,
    fun i o s => ⟨fun h => ?_, fun h => ?_, fun h => ?_⟩⟩
  case cmp | cpx | cpy => cases i <;> rfl
  · exact (exec_of_cmpForm s h).trans (congrArg _ (compare_eq s.m8 s.a o s))
  · exact (exec_of_cpxForm s h).trans (congrArg _ (compare_eq s.x8 s.x o s))
  · exact (exec_of_cpyForm s h).trans (congrArg _ (compare_eq s.x8 s.y o s))

end Sys2Proof.Machine
end

section
/-! PROOFS. Addition and subtraction (43_alu.md R251 to R255, R257, R258): the result and the flags of a sum as numbers,
and what ADC and SBC do in binary and in decimal. -/

namespace Sys2Proof.Machine

open Sys2Proof.Claims

/-! ### A sum at a width, and its overflow -/

@[simp] theorem num_false : num false = 0 := rfl
@[simp] theorem num_true : num true = 1 := rfl

theorem num_le_one (c : Bool) : num c ≤ 1 := by cases c <;> decide

theorem span_eq_or (eight : Bool) : span eight = 256 ∨ span eight = 65536 := by
  cases eight
  · exact .inr rfl
  · exact .inl rfl

theorem aluResult_res_toNat (eight : Bool) (r : Int) (v : Bool) :
    (aluResult (widthOf eight) r v).res.toNat = (r % (span eight : Nat)).toNat := by
  rw [aluResult, toNat_trunc_widthOf, part, BitVec.toNat_ofInt]
  obtain h | h := span_eq_or eight <;> rw [h] <;> omega

theorem aluResult_c (eight : Bool) (r : Int) (v : Bool) :
    (aluResult (widthOf eight) r v).c = decide ((span eight : Nat) ≤ r) := by
  cases eight <;> rfl

/-- The top bit, at a width, of an integer in two's complement (43_alu.md R251). -/
def topBit (eight : Bool) (x : Int) : Bool := decide (x / (span eight / 2 : Nat) % 2 = 1)

theorem sign_ofInt (eight : Bool) (r : Int) : (widthOf eight).sign (BitVec.ofInt 16 r) = topBit eight r := by
  rw [sign_widthOf, BitVec.toNat_ofInt, topBit]
  refine decide_eq_decide.mpr ?_
  obtain h | h := span_eq_or eight <;> rw [h] <;> omega

theorem sign_eq_topBit (eight : Bool) (v : Word) : (widthOf eight).sign v = topBit eight v.toNat := by
  rw [← sign_ofInt, BitVec.ofInt_natCast, BitVec.ofNat_toNat, BitVec.setWidth_eq]

/-- Overflow: the operands have one sign and the sum the other (43_alu.md R252). -/
theorem overflow_eq_topBit (eight : Bool) (a b : Word) (r : Int) :
    overflow (widthOf eight) a b r =
      (topBit eight a.toNat == topBit eight b.toNat && topBit eight a.toNat != topBit eight r) := by
  rw [overflow, sign_eq_topBit, sign_eq_topBit, sign_ofInt]

theorem outside_iff (eight : Bool) (r : Int) :
    outside eight r = true ↔ r < -(span eight / 2 : Nat) ∨ (span eight / 2 : Nat) ≤ r := by
  rw [outside, Bool.or_eq_true, decide_eq_true_iff, decide_eq_true_iff]

/-- The test of the signs tells whether the sum of the signed operands is outside the range. -/
theorem topBit_eq_outside (eight c : Bool) {a b : Nat} (ha : a < span eight) (hb : b < span eight) :
    (topBit eight a == topBit eight b && topBit eight a != topBit eight (a + b + num c : Nat)) =
      outside eight (signed eight a + signed eight b + num c) := by
  have hc := num_le_one c
  rw [Bool.eq_iff_iff, outside_iff]
  simp only [Bool.and_eq_true, beq_iff_eq, bne_iff_ne, ne_eq, topBit, decide_eq_decide, signed]
  obtain h | h := span_eq_or eight <;> rw [h] at ha hb ⊢ <;> omega

/-! ### The operations around the sum -/

section Sums

variable (t : State)

theorem putSum_eq (r : AluResult) :
    putSum r t =
      { t with a := accOf t r.res.toNat, p := { nzOf t.m8 r.res.toNat t.p with c := r.c, v := r.v } } := by
  apply State.ext_fields <;> simp [putSum, setAcc_a_eq_accOf, setNZ_wM]

theorem adc_eq (o : Operand) (s : State) :
    adc o s =
      let v := operandAt s.m8 o s
      let u := readBy s v.2
      putSum ((if s.p.d then addDec else addBin) s.wM s.acc v.1 s.p.c) (if s.p.d then u.debit 1 else u) := by
  have hadc : adc o s = putSum ((if s.p.d then addDec else addBin) s.wM s.acc (operandAt s.m8 o s).1 s.p.c)
    (decimalCharge (operandAt s.m8 o s).2) := rfl
  rw [hadc, operandAt_eq_readBy]
  rfl

theorem sbc_eq (o : Operand) (s : State) :
    sbc o s =
      let v := operandAt s.m8 o s
      let u := readBy s v.2
      putSum ((if s.p.d then subDec else subBin) s.wM s.acc v.1 s.p.c) (if s.p.d then u.debit 1 else u) := by
  have hsbc : sbc o s = putSum ((if s.p.d then subDec else subBin) s.wM s.acc (operandAt s.m8 o s).1 s.p.c)
    (decimalCharge (operandAt s.m8 o s).2) := rfl
  rw [hsbc, operandAt_eq_readBy]
  rfl

theorem accOf_mod (n : Nat) : accOf t (n % span t.m8) = accOf t n := by
  unfold accOf
  cases t.m8 with
  | true => simp [span]
  | false => exact BitVec.eq_of_toNat_eq (by simp [span, word])

/-! ### Binary -/

/-- A binary sum of two words of the width puts the sum of their numbers. -/
theorem putSum_addBin {a b : Word} {r : Nat} (ha : a.toNat < span t.m8) (hb : b.toNat < span t.m8)
    (hr : a.toNat + b.toNat + num t.p.c = r) :
    putSum (addBin t.wM a b t.p.c) t =
      { t with
        a := accOf t r
        p := { nzOf t.m8 r t.p with
          c := decide (span t.m8 ≤ r)
          v := outside t.m8 (signed t.m8 a.toNat + signed t.m8 b.toNat + num t.p.c) } } := by
  have hcast : (a.toNat + b.toNat + t.p.c.toNat : Int) = (r : Nat) := by rw [← hr]; cases t.p.c <;> rfl
  have hsum : addBin t.wM a b t.p.c = aluResult (widthOf t.m8) r (overflow (widthOf t.m8) a b r) := hcast ▸ rfl
  have hres := aluResult_res_toNat t.m8 r (overflow (widthOf t.m8) a b r)
  rw [← Int.natCast_mod, Int.toNat_natCast] at hres
  have hc : (aluResult (widthOf t.m8) r (overflow (widthOf t.m8) a b r)).c = decide (span t.m8 ≤ r) :=
    (aluResult_c ..).trans (decide_eq_decide.mpr Int.ofNat_le)
  have hv := overflow_eq_topBit t.m8 a b r
  rw [← hr, topBit_eq_outside t.m8 t.p.c ha hb, hr] at hv
  rw [hsum, putSum_eq, hres, hc, accOf_mod, nzOf_mod, ← hv]
  rfl

end Sums

/-- Settles O32: a binary addition puts the sum of the operands' numbers. -/
theorem adcBinaryResult : Obligations.AdcBinaryResult := by
  unfold Obligations.AdcBinaryResult
  refine ⟨rowsAre_of_rowOk fun i => by cases i <;> rfl, fun i o s h hd => ?_⟩
  have hsum := putSum_addBin (readBy s (operandAt s.m8 o s).2) (acc_toNat_lt s) (operandAt_toNat_lt s.m8 o s) rfl
  rw [toNat_acc] at hsum
  rw [exec_of_adcForm s h, adc_eq, hd]
  exact congrArg _ hsum

theorem xor_two_pow_sub_one {n b : Nat} (hb : b < 2 ^ n) : b ^^^ (2 ^ n - 1) = 2 ^ n - 1 - b := by
  rw [Nat.sub_sub, Nat.add_comm 1 b]
  refine Nat.eq_of_testBit_eq fun j => ?_
  rw [Nat.testBit_xor, Nat.testBit_two_pow_sub_one, Nat.testBit_two_pow_sub_succ hb]
  by_cases hj : j < n
  · simp [hj]
  · simp [hj, Nat.testBit_lt_two_pow (hb.trans_le (Nat.pow_le_pow_right Nat.two_pos (not_lt.mp hj)))]

/-- The one's complement at a width, which a subtraction adds (43_alu.md R253). -/
theorem toNat_xor_ones (eight : Bool) {b : Word} (hb : b.toNat < span eight) :
    (b ^^^ (widthOf eight).ones).toNat = span eight - 1 - b.toNat := by
  rw [BitVec.toNat_xor]
  cases eight with
  | true => exact xor_two_pow_sub_one (n := 8) hb
  | false => exact xor_two_pow_sub_one (n := 16) hb

theorem signed_complement (eight : Bool) {b : Nat} (hb : b < span eight) :
    signed eight (span eight - 1 - b) = -signed eight b - 1 := by
  simp only [signed]
  obtain h | h := span_eq_or eight <;> rw [h] at hb ⊢ <;> omega

/-- A binary subtraction of two words of the width puts the difference of their numbers. -/
theorem putSum_subBin (t : State) {a b : Word} {borrow : Nat} {r : Int} (ha : a.toNat < span t.m8)
    (hb : b.toNat < span t.m8) (hborrow : 1 - num t.p.c = borrow)
    (hr : ((a.toNat : Int) - b.toNat - borrow) % (span t.m8 : Nat) = r) :
    putSum (subBin t.wM a b t.p.c) t =
      { t with
        a := accOf t r.toNat
        p := { nzOf t.m8 r.toNat t.p with
          c := decide (b.toNat + borrow ≤ a.toNat)
          v := outside t.m8 (signed t.m8 a.toNat - signed t.m8 b.toNat - borrow) } } := by
  have hcomp := toNat_xor_ones t.m8 hb
  have hnum := num_le_one t.p.c
  have hsum := putSum_addBin t ha (b := b ^^^ (widthOf t.m8).ones) (hcomp ▸ by omega) rfl
  rw [hcomp, signed_complement t.m8 hb] at hsum
  have hmod : (a.toNat + (span t.m8 - 1 - b.toNat) + num t.p.c) % span t.m8 = r.toNat := by
    obtain h | h := span_eq_or t.m8 <;> rw [h] at hb hr ⊢ <;> omega
  have hc : span t.m8 ≤ a.toNat + (span t.m8 - 1 - b.toNat) + num t.p.c ↔ b.toNat + borrow ≤ a.toNat := by omega
  have hv : signed t.m8 a.toNat + (-signed t.m8 b.toNat - 1) + num t.p.c =
      signed t.m8 a.toNat - signed t.m8 b.toNat - borrow := by omega
  have hsub : subBin t.wM a b t.p.c = addBin t.wM a (b ^^^ (widthOf t.m8).ones) t.p.c := rfl
  rw [hsub, hsum, ← accOf_mod, ← nzOf_mod, hmod, hv, decide_eq_decide.mpr hc]

/-- Settles O33: a binary subtraction is the sum with the one's complement, which is the difference modulo the width. -/
theorem sbcBinaryResult : Obligations.SbcBinaryResult := by
  unfold Obligations.SbcBinaryResult
  refine ⟨rowsAre_of_rowOk fun i => by cases i <;> rfl, fun i o s h hd => ?_⟩
  have hdiff := putSum_subBin (readBy s (operandAt s.m8 o s).2) (acc_toNat_lt s) (operandAt_toNat_lt s.m8 o s) rfl rfl
  rw [toNat_acc] at hdiff
  rw [exec_of_sbcForm s h, sbc_eq, hd]
  exact congrArg _ hdiff

end Sys2Proof.Machine
end

section
/-! PROOFS. Decimal addition and subtraction (43_alu.md R254, R255; decision D60): the nibble loop on any operands is
the loop over integers, and on decimal digits it adds and subtracts decimal numbers. -/

namespace Sys2Proof.Machine

open Sys2Proof.Claims

/-! ### The loop over integers -/

theorem addFix_eq_fixAdd : addFix = fixAdd := by
  funext k r
  rw [addFix, fixAdd, pow_mul]
  rfl

theorem subFix_eq_fixSub : subFix = fixSub := by
  funext k r
  rw [subFix, fixSub, pow_mul]
  rfl

/-- A nibble group in its place: a shift and a remainder say the same as a mask. -/
theorem nibble_mul_eq_and_mask (x k : Nat) : (x >>> (4 * k)) % 16 * 16 ^ k = x &&& (0xF <<< (4 * k)) := by
  have hmask : (x >>> (4 * k)) % 16 = (x >>> (4 * k)) &&& 0xF := (Nat.and_two_pow_sub_one_eq_mod _ 4).symm
  have hpow : 16 ^ k = 2 ^ (4 * k) := (pow_mul 2 4 k).symm
  rw [hmask, hpow, ← Nat.shiftLeft_eq, Nat.shiftLeft_and_distrib]
  refine Nat.eq_of_testBit_eq fun j => ?_
  by_cases hj : 4 * k ≤ j
  · simp [hj, Nat.add_sub_cancel' hj]
  · simp [hj]

/-- The loop is the recursion over its groups. -/
theorem foldl_range_eq_nibblesBelow {fix : Nat → Int → Int} {a b : Word} {cin : Bool}
    {f : Int × Bool → Nat → Int × Bool}
    (hf : ∀ rc k, f rc k =
      let r := fix k (nibbleSum a b k rc.1 rc.2)
      (r, decide (16 * 16 ^ k ≤ r)))
    (n : Nat) : (List.range n).foldl f (0, cin) = nibblesBelow fix a b cin n := by
  induction n with
  | zero => rfl
  | succ n ih =>
    rw [List.range_succ, List.foldl_append, ih]
    exact hf _ n

theorem decimalLoop_eq (fix : Nat → Int → Int) (n : Nat) (a b : Word) (cin : Bool) :
    decimalLoop fix n a.toNat b.toNat cin =
      let below := nibblesBelow fix a b cin (n - 1)
      let r := nibbleSum a b (n - 1) below.1 below.2
      (r, fix (n - 1) r) := by
  have hsum (k : Nat) (r : Int) (c : Bool) :
      ((a.toNat &&& (0xF <<< (4 * k))) + (b.toNat &&& (0xF <<< (4 * k))) + (num c <<< (4 * k)) : Nat) +
        r % 2 ^ (4 * k) = nibbleSum a b k r c := by
    have hc : num c <<< (4 * k) = c.toNat * 16 ^ k := by
      rw [Nat.shiftLeft_eq, pow_mul]
      cases c <;> rfl
    rw [← nibble_mul_eq_and_mask, ← nibble_mul_eq_and_mask, hc, pow_mul]
    simp [nibbleSum, nibbleAt]
  simp only [decimalLoop, hsum]
  rw [foldl_range_eq_nibblesBelow (fix := fix) (a := a) (b := b) fun rc k => ?step]
  case step =>
    rw [pow_mul]
    rfl

theorem nibbleLoop_eq (fix : Nat → Int → Int) (eight : Bool) (a b : Word) (cin : Bool) :
    nibbleLoop fix (widthOf eight) a b cin =
      let r := decimalLoop fix (digits eight) a.toNat b.toNat cin
      aluResult (widthOf eight) r.2 (overflow (widthOf eight) a b r.1) := by
  have hdigits : (widthOf eight).nibbles = digits eight := by cases eight <;> rfl
  rw [nibbleLoop, hdigits, decimalLoop_eq]

/-- The nibble loop puts what the loop over integers gives. -/
theorem putSum_nibbleLoop (fix : Nat → Int → Int) (t : State) (a b : Word) :
    putSum (nibbleLoop fix t.wM a b t.p.c) t =
      let r := decimalLoop fix (digits t.m8) a.toNat b.toNat t.p.c
      let out := decimalOutcome t.m8 a.toNat b.toNat r t.p
      { t with a := accOf t out.1, p := out.2 } := by
  have hloop := nibbleLoop_eq fix t.m8 a b t.p.c
  have hwM : t.wM = widthOf t.m8 := rfl
  rw [putSum_eq, hwM, hloop, aluResult_res_toNat, aluResult_c]
  dsimp only [aluResult]
  rw [overflow_eq_topBit]
  rfl

/-- Settles O34: the correction is the model's, and the subtraction runs on the one's complement of the operand. -/
theorem decimalLoopResult : Obligations.DecimalLoopResult := by
  unfold Obligations.DecimalLoopResult
  rw [addFix_eq_fixAdd, subFix_eq_fixSub]
  intro i o s hd v a b comp add sub
  have hcomp : (v.1 ^^^ s.wM.ones).toNat = comp := toNat_xor_ones s.m8 (operandAt_toNat_lt s.m8 o s)
  have hadd := putSum_nibbleLoop fixAdd ((readBy s v.2).debit 1) s.acc v.1
  have hsub := putSum_nibbleLoop fixSub ((readBy s v.2).debit 1) s.acc (v.1 ^^^ s.wM.ones)
  rw [toNat_acc] at hadd
  rw [toNat_acc, hcomp] at hsub
  refine ⟨fun h => ?adc, fun h => ?sbc⟩
  case adc =>
    rw [exec_of_adcForm s h, adc_eq, hd]
    exact congrArg _ hadd
  case sbc =>
    rw [exec_of_sbcForm s h, sbc_eq, hd]
    exact congrArg _ hsub

/-! ### The digits of a number -/

/-- The nibble of group `k`. -/
def digitAt (n k : Nat) : Nat := n / 16 ^ k % 16

/-- The top one of `k + 1` digits. -/
theorem decimalDigits_succ (k n : Nat) : decimalDigits (k + 1) n ↔ decimalDigits k n ∧ digitAt n k ≤ 9 := by
  induction k generalizing n with
  | zero => simp [decimalDigits, digitAt]
  | succ k ih =>
    rw [decimalDigits, ih, decimalDigits, digitAt, digitAt, Nat.div_div_eq_div_mul, ← pow_succ', and_assoc]

/-- The number that `k + 1` digits stand for. -/
theorem decimalValue_succ (k n : Nat) : decimalValue (k + 1) n = decimalValue k n + digitAt n k * 10 ^ k := by
  induction k generalizing n with
  | zero => simp [decimalValue, digitAt]
  | succ k ih =>
    rw [decimalValue, ih, decimalValue, digitAt, digitAt, Nat.div_div_eq_div_mul, ← pow_succ']
    ring

theorem decimalValue_lt {k n : Nat} (h : decimalDigits k n) : decimalValue k n < 10 ^ k := by
  induction k with
  | zero => exact Nat.one_pos
  | succ k ih =>
    obtain ⟨hlow, htop⟩ := (decimalDigits_succ k n).mp h
    rw [decimalValue_succ, pow_succ]
    have := ih hlow
    have := Nat.mul_le_mul_right (10 ^ k) htop
    omega

/-- The digits below group `k` do not see that group. -/
theorem decimalDigits_add_mul (k low d : Nat) : decimalDigits k (low + d * 16 ^ k) ↔ decimalDigits k low := by
  induction k generalizing low with
  | zero => exact Iff.rfl
  | succ k ih =>
    have hmul : d * 16 ^ (k + 1) = 16 * (d * 16 ^ k) := by ring
    rw [decimalDigits, decimalDigits, hmul, Nat.add_mul_mod_self_left, Nat.add_mul_div_left _ _ (by decide), ih]

theorem decimalValue_add_mul (k low d : Nat) : decimalValue k (low + d * 16 ^ k) = decimalValue k low := by
  induction k generalizing low with
  | zero => rfl
  | succ k ih =>
    have hmul : d * 16 ^ (k + 1) = 16 * (d * 16 ^ k) := by ring
    rw [decimalValue, decimalValue, hmul, Nat.add_mul_mod_self_left, Nat.add_mul_div_left _ _ (by decide), ih]

/-! ### One group of the loop -/

/-- A sum is compared with a group by its part at and above that group. -/
theorem le_group_iff {k n low : Nat} {c : Int} (hlow : low < 16 ^ k) :
    c * 16 ^ k ≤ (n * 16 ^ k + low : Nat) ↔ c ≤ n := by
  have hlow' : (low : Int) < 16 ^ k := by exact_mod_cast hlow
  have hpos : (0 : Int) < 16 ^ k := by positivity
  push_cast
  refine ⟨fun h => ?_, fun h => ?_⟩
  · have hlt : c * 16 ^ k < (n + 1) * 16 ^ k := by linarith
    exact Int.lt_add_one_iff.mp (lt_of_mul_lt_mul_right hlt hpos.le)
  · have hle : c * 16 ^ k ≤ n * 16 ^ k := mul_le_mul_of_nonneg_right h hpos.le
    linarith

/-- The correction makes a carry of ten into a carry of sixteen. The sum of a group is a decimal digit, a carry of ten,
and an offset: 0 in an addition, and 6 in a subtraction, which adds the one's complement of a digit. -/
def CarriesAtTen (fix : Nat → Int → Int) (offset : Nat) : Prop :=
  ∀ (k d low : Nat) (c : Bool), d ≤ 9 → low < 16 ^ k →
    fix k ((offset + (d + 10 * num c)) * 16 ^ k + low : Nat) = ((d + 16 * num c) * 16 ^ k + low : Nat)

theorem fixAdd_carriesAtTen : CarriesAtTen fixAdd 0 := by
  intro k d low c hd hlow
  cases c with
  | false =>
    have hsmall : ¬ (10 : Int) ≤ (0 + (d + 10 * num false) : Nat) := by rw [num_false]; omega
    rw [fixAdd, if_neg (mt (le_group_iff hlow).mp hsmall), num_false, Nat.zero_add]
  | true =>
    have hlarge : (10 : Int) ≤ (0 + (d + 10 * num true) : Nat) := by rw [num_true]; omega
    rw [fixAdd, if_pos ((le_group_iff hlow).mpr hlarge)]
    rw [num_true]
    push_cast
    ring

theorem fixSub_carriesAtTen : CarriesAtTen fixSub 6 := by
  intro k d low c hd hlow
  cases c with
  | false =>
    have hsmall : ¬ (16 : Int) ≤ (6 + (d + 10 * num false) : Nat) := by rw [num_false]; omega
    rw [fixSub, if_pos (not_le.mp (mt (le_group_iff hlow).mp hsmall))]
    rw [num_false]
    push_cast
    ring
  | true =>
    have hlarge : (16 : Int) ≤ (6 + (d + 10 * num true) : Nat) := by rw [num_true]; omega
    rw [fixSub, if_neg (not_lt.mpr ((le_group_iff hlow).mpr hlarge))]
    rw [num_true]
    push_cast
    ring

theorem nibbleAt_eq (x : Word) (k : Nat) : nibbleAt x k = (digitAt x.toNat k * 16 ^ k : Nat) := by
  rw [nibbleAt, Nat.shiftRight_eq_div_pow, pow_mul]
  rfl

/-! ### The invariant of the loop -/

/-- After `k` groups the loop's number has decimal digits in them, and they and the carry stand for `total`. -/
def DecimalBelow (k total : Nat) (r : Int × Bool) : Prop :=
  ∃ low : Nat, low < 16 ^ k ∧ r.1 % 16 ^ k = low ∧ decimalDigits k low ∧ decimalValue k low + num r.2 * 10 ^ k = total

/-- A sum of two digits and a carry is a digit and a carry. -/
theorem exists_digit_carry {n : Nat} (hn : n ≤ 19) : ∃ (d : Nat) (c : Bool), d ≤ 9 ∧ n = d + 10 * num c := by
  obtain hsmall | hlarge := Nat.lt_or_ge n 10
  · exact ⟨n, false, by omega, rfl⟩
  · exact ⟨n - 10, true, by omega, by rw [num_true]; omega⟩

/-- A digit and a carry put on top of `k` digits. -/
theorem decimalBelow_succ {k low d : Nat} (c : Bool) (hlow : low < 16 ^ k) (hdigits : decimalDigits k low)
    (hd : d ≤ 9) :
    let r : Int := ((d + 16 * num c) * 16 ^ k + low : Nat)
    DecimalBelow (k + 1) (decimalValue k low + (d + 10 * num c) * 10 ^ k) (r, decide (16 * 16 ^ k ≤ r)) := by
  have htop : digitAt (low + d * 16 ^ k) k = d := by
    rw [digitAt, Nat.add_mul_div_right _ _ (Nat.pow_pos (by decide)), Nat.div_eq_of_lt hlow]
    omega
  have hc : decide ((16 : Int) * 16 ^ k ≤ ((d + 16 * num c) * 16 ^ k + low : Nat)) = c := by
    rw [Bool.eq_iff_iff, decide_eq_true_iff, le_group_iff hlow]
    cases c with
    | false => simpa using Nat.lt_of_le_of_lt hd (by decide)
    | true => simp
  have hlt : low + d * 16 ^ k < 16 ^ (k + 1) := by
    have := Nat.mul_le_mul_right (16 ^ k) hd
    rw [pow_succ]
    omega
  have hsplit : (d + 16 * num c) * 16 ^ k + low = low + d * 16 ^ k + 16 ^ (k + 1) * num c := by ring
  dsimp only
  refine ⟨low + d * 16 ^ k, hlt, ?mod, ?digits, ?value⟩
  case mod =>
    have hmod : ((d + 16 * num c) * 16 ^ k + low) % 16 ^ (k + 1) = low + d * 16 ^ k := by
      rw [hsplit, Nat.add_mul_mod_self_left, Nat.mod_eq_of_lt hlt]
    dsimp only
    exact_mod_cast hmod
  case digits => exact (decimalDigits_succ ..).mpr ⟨(decimalDigits_add_mul ..).mpr hdigits, htop.le.trans hd⟩
  case value =>
    rw [hc, decimalValue_succ, decimalValue_add_mul, htop]
    ring

section Loop

variable {fix : Nat → Int → Int} {offset : Nat} (hfix : CarriesAtTen fix offset) {a b : Word}

include hfix

/-- One more group: its digits and the carry into it are added in decimal. -/
theorem DecimalBelow.step {k total y : Nat} {r : Int × Bool} (h : DecimalBelow k total r) (hx : digitAt a.toNat k ≤ 9)
    (hy : y ≤ 9) (hb : digitAt b.toNat k = offset + y) :
    let r' := fix k (nibbleSum a b k r.1 r.2)
    DecimalBelow (k + 1) (total + (digitAt a.toNat k + y) * 10 ^ k) (r', decide (16 * 16 ^ k ≤ r')) := by
  obtain ⟨low, hlow, hr, hdigits, rfl⟩ := h
  have hcarry := num_le_one r.2
  obtain ⟨d, c, hd, hn⟩ := exists_digit_carry (n := digitAt a.toNat k + y + num r.2) (by omega)
  have hsum : nibbleSum a b k r.1 r.2 = ((offset + (d + 10 * num c)) * 16 ^ k + low : Nat) := by
    have hnum : (r.2.toNat : Int) = num r.2 := by cases r.2 <;> rfl
    rw [nibbleSum, nibbleAt_eq, nibbleAt_eq, hb, hr, hnum, ← hn]
    push_cast
    ring
  have htotal : decimalValue k low + num r.2 * 10 ^ k + (digitAt a.toNat k + y) * 10 ^ k =
      decimalValue k low + (d + 10 * num c) * 10 ^ k := by rw [← hn]; ring
  dsimp only
  rw [hsum, hfix k d low c hd hlow, htotal]
  exact decimalBelow_succ c hlow hdigits hd

/-- The loop adds decimal digits `y` that stand, with the offset, in the nibbles of `b`; `total` is the running sum. -/
theorem nibblesBelow_decimal {cin : Bool} {n : Nat} {y total : Nat → Nat} (hzero : total 0 = num cin)
    (hgroup : ∀ k < n, digitAt a.toNat k ≤ 9 ∧ y k ≤ 9 ∧ digitAt b.toNat k = offset + y k ∧
      total (k + 1) = total k + (digitAt a.toNat k + y k) * 10 ^ k) :
    DecimalBelow n (total n) (nibblesBelow fix a b cin n) := by
  induction n with
  | zero => exact ⟨0, by simp, by simp [nibblesBelow], trivial, by simp [nibblesBelow, decimalValue, hzero]⟩
  | succ n ih =>
    obtain ⟨hx, hy, hb, htotal⟩ := hgroup n n.lt_succ_self
    rw [htotal]
    exact (ih fun k hk => hgroup k (Nat.lt_succ_of_lt hk)).step hfix hx hy hb

end Loop

/-! ### The loop at a width -/

theorem span_eq_pow (eight : Bool) : span eight = 16 ^ digits eight := by cases eight <;> rfl

/-- The result and the carry of the loop are those of all its groups. -/
theorem nibbleLoop_of_decimalBelow {fix : Nat → Int → Int} {eight cin : Bool} {a b : Word} {total : Nat}
    (h : DecimalBelow (digits eight) total (nibblesBelow fix a b cin (digits eight))) :
    let r := nibbleLoop fix (widthOf eight) a b cin
    decimalDigits (digits eight) r.res.toNat ∧
    decimalValue (digits eight) r.res.toNat = total % 10 ^ digits eight ∧
    r.c = decide (10 ^ digits eight ≤ total) ∧ r.res.toNat < span eight := by
  obtain ⟨low, hlow, hr, hdigits, hvalue⟩ := h
  have hres : (nibbleLoop fix (widthOf eight) a b cin).res.toNat = low := by
    have hloop : (nibbleLoop fix (widthOf eight) a b cin).res =
        (aluResult (widthOf eight) (nibblesBelow fix a b cin (digits eight)).1 false).res := by cases eight <;> rfl
    rw [hloop, aluResult_res_toNat, span_eq_pow, Nat.cast_pow]
    exact (congrArg Int.toNat hr).trans (Int.toNat_natCast low)
  have hc : (nibbleLoop fix (widthOf eight) a b cin).c = (nibblesBelow fix a b cin (digits eight)).2 := by
    cases eight <;> rfl
  have hlt := decimalValue_lt hdigits
  dsimp only
  rw [hres, hc, ← hvalue]
  refine ⟨hdigits, ?_, ?_, span_eq_pow eight ▸ hlow⟩
  · rw [Nat.add_mul_mod_self_right, Nat.mod_eq_of_lt hlt]
  · cases (nibblesBelow fix a b cin (digits eight)).2 with
    | false => simpa using hlt
    | true => simp

/-! ### Addition and subtraction of decimal numbers -/

theorem decimalDigits_of_le {k j n : Nat} (hj : j ≤ k) (h : decimalDigits k n) : decimalDigits j n := by
  induction hj with
  | refl => exact h
  | step _ ih => exact ih ((decimalDigits_succ ..).mp h).1

theorem digitAt_le_nine {k j n : Nat} (hj : j < k) (h : decimalDigits k n) : digitAt n j ≤ 9 :=
  ((decimalDigits_succ ..).mp (decimalDigits_of_le hj h)).2

/-- Each nibble of the one's complement is the complement of the nibble. -/
theorem digitAt_complement {n b k : Nat} (hb : b < 16 ^ n) (hk : k < n) :
    digitAt (16 ^ n - 1 - b) k = 15 - digitAt b k := by
  obtain ⟨j, rfl⟩ := Nat.exists_eq_add_of_lt hk
  have hpow : 16 ^ (k + j + 1) = 16 ^ k * (16 * 16 ^ j) := by ring
  rw [hpow] at hb ⊢
  have hlt := Nat.div_lt_of_lt_mul hb
  rw [digitAt, digitAt, Nat.sub_sub, Nat.add_comm 1, Nat.mul_sub_div _ _ _ hb]
  omega

section Decimal

variable {eight : Bool} {a b : Word} (c : Bool) (ha : decimalDigits (digits eight) a.toNat)
  (hb : decimalDigits (digits eight) b.toNat)

include ha hb

theorem addDec_decimalBelow :
    DecimalBelow (digits eight)
      (decimalValue (digits eight) a.toNat + decimalValue (digits eight) b.toNat + num c)
      (nibblesBelow fixAdd a b c (digits eight)) := by
  refine nibblesBelow_decimal fixAdd_carriesAtTen (y := digitAt b.toNat)
    (total := fun k => decimalValue k a.toNat + decimalValue k b.toNat + num c) (Nat.zero_add _) fun k hk =>
    ⟨digitAt_le_nine hk ha, digitAt_le_nine hk hb, (Nat.zero_add _).symm, ?_⟩
  simp only [decimalValue_succ]
  ring

/-- A subtraction adds the nine's complement of each digit, and the borrow's complement. -/
theorem subDec_decimalBelow (hlt : b.toNat < span eight) :
    DecimalBelow (digits eight)
      (decimalValue (digits eight) a.toNat + (10 ^ digits eight - 1 - decimalValue (digits eight) b.toNat) + num c)
      (nibblesBelow fixSub a (b ^^^ (widthOf eight).ones) c (digits eight)) := by
  refine nibblesBelow_decimal fixSub_carriesAtTen (y := fun k => 9 - digitAt b.toNat k)
    (total := fun k => decimalValue k a.toNat + (10 ^ k - 1 - decimalValue k b.toNat) + num c) (Nat.zero_add _)
    fun k hk => ⟨digitAt_le_nine hk ha, Nat.sub_le 9 _, ?nibble, ?total⟩
  case nibble =>
    have hdigit := digitAt_le_nine hk hb
    rw [toNat_xor_ones eight hlt, span_eq_pow, digitAt_complement (span_eq_pow eight ▸ hlt) hk]
    omega
  case total =>
    have hvalue := decimalValue_lt (decimalDigits_of_le hk.le hb)
    have hsplit : digitAt b.toNat k * 10 ^ k + (9 - digitAt b.toNat k) * 10 ^ k = 9 * 10 ^ k := by
      rw [← Nat.add_mul, Nat.add_sub_cancel' (digitAt_le_nine hk hb)]
    have hcomp : 10 ^ (k + 1) - 1 - (decimalValue k b.toNat + digitAt b.toNat k * 10 ^ k) =
        10 ^ k - 1 - decimalValue k b.toNat + (9 - digitAt b.toNat k) * 10 ^ k := by
      rw [pow_succ]
      omega
    rw [decimalValue_succ, decimalValue_succ, hcomp]
    ring

end Decimal

/-- Settles O35: both loops add decimal digits, and the nine's complement turns a difference into a sum. -/
theorem decimalDigitsAddAndSubtract : Obligations.DecimalDigitsAddAndSubtract := by
  unfold Obligations.DecimalDigitsAddAndSubtract
  intro eight a b c _ hb hda hdb value total diff sum dif
  obtain ⟨hadigits, havalue, hac, halt⟩ := nibbleLoop_of_decimalBelow (addDec_decimalBelow c hda hdb)
  obtain ⟨hsdigits, hsvalue, hsc, hslt⟩ := nibbleLoop_of_decimalBelow (subDec_decimalBelow c hda hdb hb)
  have hvb : value b.toNat < 10 ^ digits eight := decimalValue_lt hdb
  have hnum := num_le_one c
  have hshift : ((value a.toNat + (10 ^ digits eight - 1 - value b.toNat) + num c : Nat) : Int) =
      diff + (10 ^ digits eight : Nat) := by
    omega
  have hborrow : 10 ^ digits eight ≤ value a.toNat + (10 ^ digits eight - 1 - value b.toNat) + num c ↔ 0 ≤ diff := by
    omega
  refine ⟨hadigits, havalue, hac, halt, hsdigits, ?value, ?borrow, hslt⟩
  case value => exact (congrArg _ hsvalue).trans (by rw [Int.natCast_mod, hshift, Int.add_emod_right])
  case borrow => exact hsc.trans (decide_eq_decide.mpr hborrow)

end Sys2Proof.Machine
end

section
/-! PROOFS. Read-modify-write (44_rmw.md R290 to R302): the flags of each function, and what the forms in memory, the
forms on the accumulator and the index steps leave, as numbers. -/

namespace Sys2Proof.Machine

open Sys2Proof.Claims

/-! ### A write and the flags depend on the number modulo the width -/

theorem idxOf_congr (s : State) {m n : Nat} (h : m % span s.x8 = n % span s.x8) : idxOf s m = idxOf s n :=
  congrArg word h

theorem nzOf_congr {eight : Bool} {m n : Nat} (h : m % span eight = n % span eight) (f : Flags) :
    nzOf eight m f = nzOf eight n f := by
  rw [← nzOf_mod, h, nzOf_mod]

theorem accOf_congr (s : State) {m n : Nat} (h : m % span s.m8 = n % span s.m8) : accOf s m = accOf s n := by
  rw [← accOf_mod, h, accOf_mod]

/-! ### The flags -/

theorem getLsbD_zero_eq_decide (v : Word) : v.getLsbD 0 = decide (v.toNat % 2 = 1) := Nat.testBit_zero v.toNat

/-- n and z come from the new value, and c from the bit shifted out; INC and DEC leave c. -/
theorem shiftFn_flags_eq_result (op : Shift) (eight : Bool) (v : Word) (f : Flags) (hv : v.toNat < span eight) :
    (shiftFn op (widthOf eight) v f).2 =
      { setNZ (widthOf eight) (shiftFn op (widthOf eight) v f).1 f with c := shiftCarry op eight v.toNat f.c } := by
  have htop : (widthOf eight).sign v = decide (span eight / 2 ≤ v.toNat) := topBit_widthOf eight v hv
  cases op with
  | asl | rol => exact congrArg (fun b => { setNZ _ _ f with c := b }) htop
  | lsr | ror => exact congrArg (fun b => { setNZ _ _ f with c := b }) (getLsbD_zero_eq_decide v)
  | inc | dec => rfl

/-- A shift, rotate, increment or decrement as arithmetic (44_rmw.md R291 to R296). -/
theorem shiftFn_eq (op : Shift) (eight : Bool) (v : Word) (f : Flags) (hv : v.toNat < span eight) :
    shiftFn op (widthOf eight) v f =
      (word (shiftResult op eight v.toNat f.c), shiftFlags op eight v.toNat f) := by
  refine Prod.ext (shiftFn_result op eight v f hv) ?_
  rw [shiftFn_flags_eq_result op eight v f hv, shiftFn_result op eight v f hv, setNZ_widthOf,
    nzOf_congr (part_word eight _)]
  rfl

theorem tsbFn_eq (acc v : Word) (w : Width) (f : Flags) :
    tsbFn acc w v f = (word (v.toNat ||| acc.toNat), { f with z := decide (acc.toNat &&& v.toNat = 0) }) := by
  rw [← tsbFn_result acc v w f, ← and_beq_zero]
  rfl

theorem trbFn_eq (acc v : Word) (eight : Bool) (f : Flags) (hv : v.toNat < span eight) :
    trbFn acc (widthOf eight) v f =
      (word (v.toNat - (v.toNat &&& acc.toNat)), { f with z := decide (acc.toNat &&& v.toNat = 0) }) := by
  rw [← trbFn_result acc v eight f hv, ← and_beq_zero]
  rfl

/-! ### The forms in memory -/

/-- A read-modify-write in memory whose function gives `new` for the operand: the read, one cycle, the flags, the write
(44_rmw.md R290, 70_reset_and_hazards.md R623). -/
theorem rmwMem_eq (f : Width → Word → Flags → Word × Flags) (m : AddrMode) (s : State) (new : Word × Flags) :
    let r := resolve m s
    let v := memRead (widthOf s.m8) r.1.cls r.1.ea r.2
    f (widthOf s.m8) v.1 s.p = new →
    rmwMem f m s =
      memWrite (widthOf s.m8) r.1.cls r.1.ea new.1 { v.2 with cycles := v.2.cycles - 1, p := new.2 } := by
  rintro r v rfl
  rfl

/-- Settles O39: the function's value and flags are those of the operand's number. -/
theorem memoryShiftResults : Obligations.MemoryShiftResults := by
  unfold Obligations.MemoryShiftResults
  refine ⟨rowsAre_of_rowOk fun i => by cases i <;> rfl, fun i op m s h => ?_⟩
  intro r v ready
  have hnew := shiftFn_eq op s.m8 v.1 s.p (memRead_toNat_lt ..)
  rw [exec_of_shiftMemForm s h, rmwMem_eq _ _ _ _ hnew]

/-- Settles O40: the accumulator's part and the operand as numbers. -/
theorem testBitsResults : Obligations.TestBitsResults := by
  unfold Obligations.TestBitsResults
  refine ⟨rowsAre_of_rowOk fun i => ?tsbRows, rowsAre_of_rowOk fun i => ?trbRows, fun i m s => ?_⟩
  case tsbRows | trbRows => cases i <;> rfl
  intro r v acc old ready
  have hacc : s.acc.toNat = acc := toNat_acc s
  refine ⟨fun h => ?tsb, fun h => ?trb⟩
  case tsb =>
    have hnew := tsbFn_eq s.acc v.1 (widthOf s.m8) s.p
    rw [exec_of_tsbForm s h, rmwMem_eq _ _ _ _ hnew, hacc]
  case trb =>
    have hnew := trbFn_eq s.acc v.1 s.m8 s.p (memRead_toNat_lt ..)
    rw [exec_of_trbForm s h, rmwMem_eq _ _ _ _ hnew, hacc]

/-! ### The forms on the accumulator -/

theorem exec_of_shiftAccForm {i : Instr} {op : Shift} (s : State) (h : shiftAccForm i = some op) :
    exec i s = .next (rmwAcc (shiftFn op) s) := by
  unfold shiftAccForm at h
  split at h <;> cases h <;> rfl

theorem rmwAcc_shiftFn_eq (op : Shift) (s : State) :
    rmwAcc (shiftFn op) s =
      let v := part s.m8 s.a
      { s with a := accOf s (shiftResult op s.m8 v s.p.c), p := shiftFlags op s.m8 v s.p } := by
  have hnew : shiftFn op s.wM s.acc s.p = _ := shiftFn_eq op s.m8 s.acc s.p (acc_toNat_lt s)
  rw [toNat_acc] at hnew
  rw [rmwAcc, hnew]
  apply State.ext_fields
  case h_a => exact (setAcc_a_eq_accOf s _).trans (accOf_congr s (part_word s.m8 _))
  all_goals simp

/-! ### The index steps -/

theorem part_add_one (eight : Bool) (v : Word) : part eight (v + 1) = (v.toNat + 1) % span eight := by
  have hsum : v + 1 = word (v.toNat + 1) := (word_toNat_add v 1).symm
  rw [hsum, part_word]

/-- One less, at a width, is the width's greatest number more. -/
theorem part_add_neg_one (eight : Bool) (v : Word) : part eight (v + -1) = (v.toNat + span eight - 1) % span eight := by
  have hsum : v + -1 = word (v.toNat + 65535) := (word_toNat_add v 65535).symm
  rw [hsum, part_word]
  obtain h | h := span_eq_or eight <;> rw [h] <;> omega

/-- A step of X to a value whose part at width wX is that of the number `n`. -/
theorem stepX_eq {delta : Word} {s : State} {n : Nat} (h : part s.x8 (s.x + delta) = n % span s.x8) :
    stepX delta s = { s with x := idxOf s n, p := nzOf s.x8 n s.p } := by
  rw [stepX, putX_setNZ_eq, idxOf_congr s h, nzOf_congr h]

/-- A step of Y, likewise. -/
theorem stepY_eq {delta : Word} {s : State} {n : Nat} (h : part s.x8 (s.y + delta) = n % span s.x8) :
    stepY delta s = { s with y := idxOf s n, p := nzOf s.x8 n s.p } := by
  rw [stepY, putY_setNZ_eq, idxOf_congr s h, nzOf_congr h]

/-- Settles O38: the accumulator forms put the function's value of A's part, and the steps the register's successor or
predecessor. -/
theorem registerShiftAndStepResults : Obligations.RegisterShiftAndStepResults := by
  unfold Obligations.RegisterShiftAndStepResults
  refine ⟨rowsAre_of_rowOk fun i => by cases i <;> rfl, by unfold codesAre; decide, fun s =>
    ⟨fun i op h => ?acc, ?inx, ?iny, ?dex, ?dey⟩⟩
  case acc => exact (exec_of_shiftAccForm s h).trans (congrArg _ (rmwAcc_shiftFn_eq op s))
  case inx => exact congrArg Host.Outcome.next (stepX_eq (part_add_one s.x8 s.x))
  case iny => exact congrArg Host.Outcome.next (stepY_eq (part_add_one s.x8 s.y))
  case dex => exact congrArg Host.Outcome.next (stepX_eq (part_add_neg_one s.x8 s.x))
  case dey => exact congrArg Host.Outcome.next (stepY_eq (part_add_neg_one s.x8 s.y))

end Sys2Proof.Machine
end

section
/-! PROOFS. Branches and jumps (45_control.md R320 to R332): the targets as numbers, and what a jump pointer's read
leaves alone. -/

namespace Sys2Proof.Machine

open Sys2Proof.Claims

/-! ### Branches -/

theorem exec_of_branchForm {i : Instr} {c : Cond} {r : Byte} (s : State) (h : branchForm i = some (c, r)) :
    exec i s = .next (branch (c.holds s.p) r s) := by
  unfold branchForm at h
  split at h <;> cases h <;> rfl

theorem toInt_eq_signed (r : Byte) : r.toInt = signed true r.toNat := by
  have := r.isLt
  rw [BitVec.toInt_eq_toNat_cond, signed]
  simp only [span, if_true]
  split <;> split <;> omega

/-- A displacement is added modulo 2^16, and so within the bank (40_addressing.md R179). -/
theorem add_sext_eq_word (pc : Word) (r : Byte) :
    pc + sext r = word (((pc.toNat : Int) + signed true r.toNat) % 65536).toNat := by
  have hsum : pc + sext r = BitVec.ofInt 16 (pc.toNat + r.toInt) := by
    rw [BitVec.ofInt_add, BitVec.ofInt_natCast, BitVec.ofNat_toNat, BitVec.setWidth_eq]
    rfl
  rw [hsum, toInt_eq_signed, ← word_toNat (BitVec.ofInt 16 _), BitVec.toNat_ofInt]
  rfl

theorem branch_eq (cond : Bool) (r : Byte) (s : State) :
    branch cond r s = { s with
      pc := if cond then word (((s.pc.toNat : Int) + signed true r.toNat) % 65536).toNat else s.pc } := by
  rw [branch, ← add_sext_eq_word]
  cases cond <;> rfl

theorem word_toNat_add_toNat (v w : Word) : word (v.toNat + w.toNat) = v + w := by
  rw [word_toNat_add, BitVec.ofNat_toNat, BitVec.setWidth_eq]

/-- Settles O43: every branch runs the common rule on its condition, and BRL always jumps. -/
theorem branchResults : Obligations.BranchResults := by
  unfold Obligations.BranchResults
  refine ⟨rowsAre_of_rowOk fun i => by cases i <;> rfl, fun _ => rfl, fun s => ⟨fun i c r h => ?_, fun r => ?_⟩⟩
  · exact (exec_of_branchForm s h).trans (congrArg _ (branch_eq _ r s))
  · rw [word_toNat_add_toNat]
    rfl

/-! ### Jumps -/

theorem addr_word (bank : Byte) (n : Nat) :
    addr bank (word n) = BitVec.ofNat 24 (bank.toNat * 65536 + n % 65536) := by
  rw [addr_eq_ofNat, word, BitVec.toNat_ofNat]

theorem bank0_word (n : Nat) : bank0 (word n) = BitVec.ofNat 24 (n % 65536) := by
  rw [bank0_eq_ofNat, word, BitVec.toNat_ofNat]

theorem word_add_ofNat (n k : Nat) : word n + BitVec.ofNat 16 k = word (n + k) :=
  (BitVec.ofNat_add n k).symm

/-- A jump pointer or a vector: its second byte is at the next offset of the bank (40_addressing.md R183, R184). -/
theorem readPointer_word (bank : Byte) (n : Nat) (s : State) :
    readPointer bank (word n) s =
      let low := read8 (BitVec.ofNat 24 (bank.toNat * 65536 + n % 65536)) s
      let high := read8 (BitVec.ofNat 24 (bank.toNat * 65536 + (n + 1) % 65536)) low.2
      (word (low.1.toNat + 256 * high.1.toNat), high.2) := by
  have hnext : word n + 1 = word (n + 1) := word_add_ofNat n 1
  simp only [readPointer, hnext, addr_word, join_eq_word]

/-- The pointer of JMP (a) and JML [a], in bank 0 (decision D56). -/
theorem readPointer_bank0 (w : Word) (s : State) :
    readPointer 0 w s =
      let low := read8 (BitVec.ofNat 24 (w.toNat % 65536)) s
      let high := read8 (BitVec.ofNat 24 ((w.toNat + 1) % 65536)) low.2
      (word (low.1.toNat + 256 * high.1.toNat), high.2) := by
  have hzero : (0 : Byte).toNat * 65536 = 0 := rfl
  have hread := readPointer_word 0 w.toNat s
  rwa [word_toNat, hzero, Nat.zero_add, Nat.zero_add] at hread

theorem readPointer_eq_readBy (bank : Byte) (off : Word) (s : State) :
    (readPointer bank off s).2 = readBy s (readPointer bank off s).2 := by
  apply State.ext_fields <;> simp [readBy]

theorem jumpLong_eq (l : Addr) (s : State) :
    jumpLong l s = { s with pc := word (l.toNat % 65536), pbr := BitVec.ofNat 8 (l.toNat / 65536) } := by
  rw [← toNat_offOf, ← toNat_bankOf, word_toNat, BitVec.ofNat_toNat, BitVec.setWidth_eq]
  rfl

/-- The jump through a pointer in bank PBR, which JMP (a,X) and JSR (a,X) share (decision D57). -/
theorem jumpIndexed_eq (w : Word) (s : State) :
    jumpIndexed w s =
      let inP (n : Nat) : Addr := BitVec.ofNat 24 (s.pbr.toNat * 65536 + n % 65536)
      let low := read8 (inP (w.toNat + s.x.toNat)) s
      let high := read8 (inP (w.toNat + s.x.toNat + 1)) low.2
      { readBy s high.2 with pc := word (low.1.toNat + 256 * high.1.toNat) } := by
  have hframe := readPointer_eq_readBy s.pbr (word (w.toNat + s.x.toNat)) s
  rw [readPointer_word] at hframe
  rw [jumpIndexed, ← word_toNat_add_toNat, readPointer_word, hframe]
  rfl

theorem readPointerLong_eq (w : Word) (s : State) :
    readPointerLong w s =
      let b := read8 (BitVec.ofNat 24 ((w.toNat + 2) % 65536)) (readPointer 0 w s).2
      (addr b.1 (readPointer 0 w s).1, b.2) := by
  have hbank : bank0 (w + 2) = BitVec.ofNat 24 ((w.toNat + 2) % 65536) := by
    rw [← bank0_word, word_toNat_add]
    rfl
  rw [readPointerLong, hbank]

theorem readPointerLong_eq_readBy (w : Word) (s : State) :
    (readPointerLong w s).2 = readBy s (readPointerLong w s).2 := by
  apply State.ext_fields <;> simp [readBy, readPointerLong]

/-- Settles O44: the pointer's bytes as numbers, and its read changes no register. -/
theorem jumpResults : Obligations.JumpResults := by
  unfold Obligations.JumpResults
  refine ⟨fun _ _ _ => ⟨rfl, rfl, rfl, rfl, rfl⟩, fun s w l => ?_⟩
  intro in0 inP b0 b1 b2 p0 p1
  have hshort : readPointer 0 w s = (word (b0.1.toNat + 256 * b1.1.toNat), b1.2) := readPointer_bank0 w s
  have hlong : readPointerLong w s = (addr b2.1 (word (b0.1.toNat + 256 * b1.1.toNat)), b2.2) := by
    rw [readPointerLong_eq, hshort]
  refine ⟨rfl, congrArg Host.Outcome.next ?jmpInd, congrArg _ (jumpIndexed_eq w s), congrArg _ (jumpLong_eq l s),
    congrArg Host.Outcome.next ?jmlInd⟩
  case jmpInd =>
    have hframe := readPointer_eq_readBy 0 w s
    rw [hshort] at hframe ⊢
    exact congrArg (fun t => State.setPC t _) hframe
  case jmlInd =>
    have hframe := readPointerLong_eq_readBy w s
    rw [hlong] at hframe ⊢
    rw [jumpLong, offOf_addr, bankOf_addr]
    exact congrArg (fun t => (State.setPC t _).setPBR _) hframe

end Sys2Proof.Machine
end

section
/-! PROOFS. The stack (46_stack.md R350 to R353): the stack pointer as a number, and what a run of pushes leaves
unchanged. -/

namespace Sys2Proof.Machine

open Sys2Proof.Claims

/-! ### The stack pointer -/

section Pointer

variable (s : State) (k : Nat)

theorem spAfter_zero : spAfter s 0 = s.s := by
  simp [spAfter, word_toNat]

theorem spUp_zero : spUp s 0 = s.s := by
  simp [spUp, word_toNat]

theorem spAfter_succ_of_e (he : s.e = true) :
    spAfter s (k + 1) = word (0x100 + (s.s.toNat + 256 * (k + 1) - (k + 1)) % 256) :=
  if_pos ⟨he, k.succ_pos⟩

theorem spUp_succ_of_e (he : s.e = true) : spUp s (k + 1) = word (0x100 + (s.s.toNat + (k + 1)) % 256) :=
  if_pos ⟨he, k.succ_pos⟩

/-- In emulation mode the low byte alone counts. -/
theorem toNat_lo_spAfter (he : s.e = true) : (lo (spAfter s k)).toNat = (s.s.toNat + 256 * k - k) % 256 := by
  rw [toNat_lo]
  cases k with
  | zero => rw [spAfter_zero, Nat.mul_zero, Nat.add_zero, Nat.sub_zero]
  | succ k =>
    rw [spAfter_succ_of_e s k he, word, BitVec.toNat_ofNat]
    omega

theorem toNat_lo_spUp (he : s.e = true) : (lo (spUp s k)).toNat = (s.s.toNat + k) % 256 := by
  rw [toNat_lo]
  cases k with
  | zero => rw [spUp_zero, Nat.add_zero]
  | succ k =>
    rw [spUp_succ_of_e s k he, word, BitVec.toNat_ofNat]
    omega

theorem join_one_eq_word (l : Byte) : join 1 l = word (0x100 + l.toNat) := by
  rw [join_eq_word, Nat.add_comm]
  rfl

/-- One push more (decision D66). -/
theorem stackDown_spAfter : stackDown s.e (spAfter s k) = spAfter s (k + 1) := by
  cases he : s.e with
  | true =>
    have hlow := toNat_lo_spAfter s k he
    have hone : (1 : Byte).toNat = 1 := rfl
    rw [stackDown, if_pos rfl, join_one_eq_word, spAfter_succ_of_e s k he, BitVec.toNat_sub, hlow, hone]
    exact congrArg (fun n => word (0x100 + n)) (by omega)
  | false =>
    simp only [stackDown, spAfter, he, Bool.false_eq_true, false_and, if_false]
    refine BitVec.eq_of_toNat_eq ?_
    have hone : (1 : Word).toNat = 1 := rfl
    simp only [word, BitVec.toNat_sub, BitVec.toNat_ofNat, hone]
    omega

/-- One pull more (decision D66). -/
theorem stackUp_spUp : stackUp s.e (spUp s k) = spUp s (k + 1) := by
  cases he : s.e with
  | true =>
    have hlow := toNat_lo_spUp s k he
    have hone : (1 : Byte).toNat = 1 := rfl
    rw [stackUp, if_pos rfl, join_one_eq_word, spUp_succ_of_e s k he, BitVec.toNat_add, hlow, hone]
    exact congrArg (fun n => word (0x100 + n)) (by omega)
  | false =>
    simp only [stackUp, spUp, he, Bool.false_eq_true, false_and, if_false]
    exact word_add_ofNat _ 1

/-- A pull goes back to where the last push wrote; at the first push in emulation mode this is page 1 by the
stack-page invariant. -/
theorem stackUp_spAfter (hpage : s.stackPageOk = true) : stackUp s.e (spAfter s (k + 1)) = spAfter s k := by
  rw [← stackDown_spAfter]
  cases he : s.e with
  | true =>
    have hhigh : hi (spAfter s k) = 1 := by
      cases k with
      | zero => rw [spAfter_zero]; exact (stackPageOk_iff s).mp hpage he
      | succ k => rw [← stackDown_spAfter, he, stackDown, if_pos rfl, hi_join]
    rw [stackDown, stackUp, if_pos rfl, if_pos rfl, lo_join, BitVec.sub_add_cancel, ← hhigh, join_hi_lo]
  | false => exact BitVec.sub_add_cancel _ _

end Pointer

/-! ### Pushes -/

section Pushes

variable (bytes : List Byte) (s : State)

theorem pushAll_cons (v : Byte) : pushAll (v :: bytes) s = pushAll bytes (push8 v s) := rfl

theorem pushAll_concat (v : Byte) : pushAll (bytes ++ [v]) s = push8 v (pushAll bytes s) :=
  List.foldl_append

theorem highFirst_eq (w : Word) : highFirst w = [hi w, lo w] := by
  rw [highFirst, ← hi_eq_ofNat, ← lo_eq_ofNat]

theorem push16_eq_pushAll (w : Word) : push16 w s = pushAll (highFirst w) s := by
  rw [highFirst_eq]
  rfl

/-- A run of pushes. -/
@[simp] theorem pushAll_frame :
    (pushAll bytes s).a = s.a ∧ (pushAll bytes s).x = s.x ∧ (pushAll bytes s).y = s.y ∧ (pushAll bytes s).dp = s.dp ∧
    (pushAll bytes s).pc = s.pc ∧ (pushAll bytes s).pbr = s.pbr ∧ (pushAll bytes s).dbr = s.dbr ∧
    (pushAll bytes s).p = s.p ∧ (pushAll bytes s).e = s.e ∧ (pushAll bytes s).wai = s.wai ∧
    (pushAll bytes s).lines = s.lines ∧ (pushAll bytes s).rom = s.rom ∧ (pushAll bytes s).nvb = s.nvb ∧
    (pushAll bytes s).cfg = s.cfg := by
  induction bytes generalizing s with
  | nil => simp [pushAll]
  | cons v bytes ih => simpa [pushAll_cons] using ih (push8 v s)

theorem pushAll_s : (pushAll bytes s).s = spAfter s bytes.length := by
  induction bytes using List.reverseRecOn with
  | nil => exact (spAfter_zero s).symm
  | append_singleton bytes v ih =>
    simp [pushAll_concat, push8, ih, stackDown_spAfter]

end Pushes

/-! ### A stack in RAM -/

/-- The next `n` pushes from `s` store to the cells `cell 0`, `cell 1` and so on, which are different ones: `ramStack`
with its cells named. -/
def RamCells (s : State) (n : Nat) (cell : Nat → Nat) : Prop :=
  (∀ j < n, hits s (bank0 (spAfter s j)) (cell j)) ∧ ∀ i < n, ∀ j < n, cell i = cell j → i = j

theorem RamCells.of_succ {s : State} {n : Nat} {cell : Nat → Nat} (h : RamCells s (n + 1) cell) : RamCells s n cell :=
  ⟨fun j hj => h.1 j (by omega), fun i hi j hj => h.2 i (by omega) j (by omega)⟩

theorem RamCells.hit {s : State} {n j : Nat} {cell : Nat → Nat} (h : RamCells s n cell) (hj : j < n) :
    hits s (bank0 (spAfter s j)) (cell j) :=
  h.1 j hj

/-- Where a byte access stores depends on the latches and the parameters alone. -/
theorem hits_congr {s t : State} {a : Addr} {n : Nat} (hb : t.banks = s.banks) (hc : t.cfg = s.cfg) (h : hits s a n) :
    hits t a n :=
  (writeTarget_congr t s a hb hc).trans h

theorem push8_ram {t : State} {n : Nat} (v : Byte) (h : hits t (bank0 t.s) n) :
    push8 v t = { t with cycles := t.cycles - 1, s := stackDown t.e t.s, ram := t.ram.write n v } := by
  rw [push8, write8_ram _ v t n h]
  rfl

/-- After the pushes the cells hold the bytes, and of what a write may change the cycle counter and RAM alone differ. -/
structure PushedToRam (cell : Nat → Nat) (bytes : List Byte) (s : State) : Prop where
  banks : (pushAll bytes s).banks = s.banks
  yieldReq : (pushAll bytes s).yieldReq = s.yieldReq
  host : (pushAll bytes s).host = s.host
  wf : (pushAll bytes s).ram.wf = true
  reads : ∀ j < bytes.length, bytes[j]? = some ((pushAll bytes s).ram.read (cell j))

theorem pushAll_pushedToRam {bytes : List Byte} {s : State} {cell : Nat → Nat} (hwf : s.ram.wf = true)
    (hcells : RamCells s bytes.length cell) : PushedToRam cell bytes s := by
  induction bytes using List.reverseRecOn with
  | nil => exact ⟨rfl, rfl, rfl, hwf, fun j hj => absurd hj j.not_lt_zero⟩
  | append_singleton bytes v ih =>
    rw [List.length_append, List.length_singleton] at hcells
    obtain ⟨hbanks, hyield, hhost, hwf, hreads⟩ := ih hcells.of_succ
    obtain ⟨hhits, hinj⟩ := hcells
    have hhit : hits (pushAll bytes s) (bank0 (pushAll bytes s).s) (cell bytes.length) := by
      rw [pushAll_s]
      exact hits_congr hbanks (by simp) (hhits bytes.length (Nat.lt_succ_self _))
    have hpush := (pushAll_concat bytes s v).trans (push8_ram v hhit)
    constructor <;> rw [hpush]
    · exact hbanks
    · exact hyield
    · exact hhost
    · exact wf_write _ _ _ hwf
    intro j hj
    rw [List.length_append, List.length_singleton] at hj
    obtain hlt | rfl := Nat.lt_succ_iff_lt_or_eq.mp hj
    · have hne : cell bytes.length ≠ cell j := fun h => hlt.ne' (hinj _ (Nat.lt_succ_self _) _ hj h)
      rw [List.getElem?_append_left hlt, hreads j hlt, read_write_other _ _ _ _ hne]
    · rw [List.getElem?_concat_length, read_write_same _ _ _ hwf]

/-- `s` with `k` bytes pushed, cycle counter `n`, host's side `h` and RAM `m`. -/
def stacked (s : State) (k : Nat) (n : Int) (h : HostSide) (m : Memory) : State :=
  { s with cycles := n, host := h, ram := m, s := spAfter s k }

theorem stacked_zero (s : State) (n : Int) (h : HostSide) (m : Memory) :
    stacked s 0 n h m = { s with cycles := n, host := h, ram := m } := by
  rw [stacked, spAfter_zero]

theorem PushedToRam.pushAll_eq_stacked {cell : Nat → Nat} {bytes : List Byte} {s : State}
    (h : PushedToRam cell bytes s) :
    pushAll bytes s = stacked s bytes.length (pushAll bytes s).cycles s.host (pushAll bytes s).ram := by
  apply State.ext_fields <;> simp [stacked, pushAll_s, h.banks, h.yieldReq, h.host]

section Pulls

variable {s : State} {k low high : Nat} (n : Int) (h : HostSide) (m : Memory) (hpage : s.stackPageOk = true)

include hpage

/-- A pull reads the cell of the last push. -/
theorem pull8_stacked (hlow : hits s (bank0 (spAfter s k)) low) :
    pull8 (stacked s (k + 1) n h m) = (m.read low, stacked s k (n - 1) h m) := by
  have hup : stackUp (stacked s (k + 1) n h m).e (stacked s (k + 1) n h m).s = spAfter s k :=
    stackUp_spAfter s k hpage
  rw [pull8, hup]
  exact read8_mem _ (stacked s k n h m) _ (readTarget_of_write _ _ _ hlow)

theorem pull16_stacked (hlow : hits s (bank0 (spAfter s (k + 1))) low) (hhigh : hits s (bank0 (spAfter s k)) high) :
    pull16 (stacked s (k + 2) n h m) = (join (m.read high) (m.read low), stacked s k (n - 1 - 1) h m) := by
  rw [pull16, pull8_stacked n h m hpage hlow]
  dsimp only
  rw [pull8_stacked (n - 1) h m hpage hhigh]

end Pulls

end Sys2Proof.Machine
end

section
/-! PROOFS. Calls and returns (45_control.md R333 to R336): what each of them leaves, and that a return undoes its
call. -/

namespace Sys2Proof.Machine

open Sys2Proof.Claims

/-! ### Calls -/

theorem sub_one_eq_word (v : Word) : v - 1 = word (v.toNat + 65535) :=
  (sub_eq_add_neg _ _).trans (word_toNat_add _ _).symm

/-- The return address is that of the instruction's last byte, pushed high byte first. -/
theorem pushReturn_eq (s : State) : pushReturn s = pushAll (highFirst (s.pc - 1)) s :=
  push16_eq_pushAll s _

/-- JSL pushes PBR before the return address. -/
theorem pushReturn_push8_eq (s : State) :
    pushReturn (push8 s.pbr s) = pushAll (s.pbr :: highFirst (s.pc - 1)) s := by
  have hpc : (push8 s.pbr s).pc = s.pc := by simp
  rw [pushReturn_eq, hpc, pushAll_cons]

/-- Settles O45: the pushes change what the stack may change, and the jump comes after them. -/
theorem callResults : Obligations.CallResults := by
  unfold Obligations.CallResults
  refine ⟨fun _ _ _ => ⟨rfl, rfl, rfl⟩, fun s w l => ?_⟩
  intro ret short long inP p0 p1
  have hshort : pushReturn s = short := by rw [pushReturn_eq, sub_one_eq_word]
  have hlong : pushReturn (push8 s.pbr s) = long := by rw [pushReturn_push8_eq, sub_one_eq_word]
  refine ⟨congrArg Host.Outcome.next ?jsrAbs, congrArg Host.Outcome.next ?jsrXInd, congrArg Host.Outcome.next ?jsl⟩
  case jsrAbs =>
    rw [hshort]
    apply State.ext_fields <;> simp [stackBy, writeBy, short]
  case jsrXInd =>
    have hx : short.x = s.x := by simp [short]
    have hpbr : short.pbr = s.pbr := by simp [short]
    rw [hshort, jumpIndexed_eq, hx, hpbr]
    apply State.ext_fields <;> simp [readBy, stackBy, writeBy, short, p0, p1, inP]
  case jsl =>
    rw [hlong, jumpLong_eq]
    apply State.ext_fields <;> simp [stackBy, writeBy, long]

/-! ### Returns -/

/-- A pull at the stack pointer that `k` pulls from `s` left. -/
theorem pull8_of_spUp {s t : State} {k : Nat} (he : t.e = s.e) (hs : t.s = spUp s k) :
    pull8 t = read8 (bank0 (spUp s (k + 1))) { t with s := spUp s (k + 1) } := by
  have hup : stackUp t.e t.s = spUp s (k + 1) := by rw [he, hs, stackUp_spUp]
  rw [pull8, hup]
  rfl

theorem read8_setPC (a : Addr) (pc : Word) (t : State) :
    read8 a (t.setPC pc) = ((read8 a t).1, (read8 a t).2.setPC pc) := by
  have htarget : readTarget (t.setPC pc) a = readTarget t a := rfl
  refine Prod.ext rfl ?_
  simp only [read8, afterRead, htarget]
  split <;> rfl

/-- Settles O46: each pull moves S up by one and reads there, and a read changes no register. -/
theorem returnResults : Obligations.ReturnResults := by
  unfold Obligations.ReturnResults
  refine ⟨by unfold codesAre; decide, fun s => ?_⟩
  intro b0 b1 b2 target
  have hlow : pull8 s = b0 := pull8_of_spUp rfl (spUp_zero s).symm
  have hhigh : pull8 b0.2 = b1 := pull8_of_spUp (by simp [b0]) (by simp [b0])
  have hshort : returnShort s = b1.2.setPC target := by
    rw [returnShort, pull16, hlow, hhigh, join_eq_word]
    exact congrArg b1.2.setPC (word_add_ofNat _ 1)
  have hbank : pull8 (b1.2.setPC target) = (b2.1, b2.2.setPC target) :=
    (pull8_of_spUp (s := s) (k := 2) (by simp [b0, b1]) (by simp [b1])).trans
      (read8_setPC (bank0 (spUp s 3)) target { b1.2 with s := spUp s 3 })
  refine ⟨congrArg Host.Outcome.next ?rts, congrArg Host.Outcome.next ?rtl⟩
  case rts =>
    rw [hshort]
    apply State.ext_fields <;> simp [readBy, b0, b1]
  case rtl =>
    rw [returnLong, hshort, hbank]
    apply State.ext_fields <;> simp [readBy, b0, b1, b2]

/-! ### A return undoes its call -/

/-- The pulls of RTS, where the two last pushes stored the bytes of `v`. -/
theorem returnShort_stacked {s : State} {k low high : Nat} {n : Int} {h : HostSide} {m : Memory} {v : Word}
    (hpage : s.stackPageOk = true) (hlow : hits s (bank0 (spAfter s (k + 1))) low)
    (hhigh : hits s (bank0 (spAfter s k)) high) (hlo : lo v = m.read low) (hhi : hi v = m.read high) :
    returnShort (stacked s (k + 2) n h m) = (stacked s k (n - 1 - 1) h m).setPC (v + 1) := by
  rw [returnShort, pull16_stacked n h m hpage hlow hhigh, ← hlo, ← hhi]
  dsimp only
  rw [join_hi_lo]

section Undoes

variable {s : State} {cell : Nat → Nat} (n : Int) (h : HostSide) (pc : Word) (hwf : s.ram.wf = true)
  (hpage : s.stackPageOk = true)

include hwf

theorem pushReturn_eq_stacked (hcells : RamCells s 2 cell) :
    pushReturn s = stacked s 2 (pushReturn s).cycles s.host (pushReturn s).ram := by
  have hpushed : PushedToRam cell (highFirst (s.pc - 1)) s := pushAll_pushedToRam hwf hcells
  rw [pushReturn_eq]
  exact hpushed.pushAll_eq_stacked

theorem pushReturn_push8_eq_stacked (hcells : RamCells s 3 cell) :
    pushReturn (push8 s.pbr s) =
      stacked s 3 (pushReturn (push8 s.pbr s)).cycles s.host (pushReturn (push8 s.pbr s)).ram := by
  have hpushed : PushedToRam cell (s.pbr :: highFirst (s.pc - 1)) s := pushAll_pushedToRam hwf hcells
  rw [pushReturn_push8_eq]
  exact hpushed.pushAll_eq_stacked

include hpage

/-- RTS after a push of the return address, from any PC. -/
theorem returnShort_pushReturn (hcells : RamCells s 2 cell) :
    returnShort (stacked (s.setPC pc) 2 n h (pushReturn s).ram) =
      { s with cycles := n - 1 - 1, host := h, ram := (pushReturn s).ram } := by
  have hpushed : PushedToRam cell (highFirst (s.pc - 1)) s := pushAll_pushedToRam hwf hcells
  have hreads := hpushed.reads
  rw [← pushReturn_eq, highFirst_eq] at hreads
  have hhigh := Option.some.inj (hreads 0 (by simp))
  have hlow := Option.some.inj (hreads 1 (by simp))
  rw [returnShort_stacked (s := s.setPC pc) hpage (hcells.hit (by decide)) (hcells.hit (by decide)) hlow hhigh,
    stacked_zero, BitVec.sub_add_cancel]
  rfl

/-- RTL after pushes of PBR and the return address, from any PC and PBR. -/
theorem returnLong_pushReturn (pbr : Byte) (hcells : RamCells s 3 cell) :
    returnLong (stacked ((s.setPC pc).setPBR pbr) 3 n h (pushReturn (push8 s.pbr s)).ram) =
      { s with cycles := n - 1 - 1 - 1, host := h, ram := (pushReturn (push8 s.pbr s)).ram } := by
  have hpushed : PushedToRam cell (s.pbr :: highFirst (s.pc - 1)) s := pushAll_pushedToRam hwf hcells
  have hreads := hpushed.reads
  rw [← pushReturn_push8_eq, highFirst_eq] at hreads
  have hbank := Option.some.inj (hreads 0 (by simp))
  have hhigh := Option.some.inj (hreads 1 (by simp))
  have hlow := Option.some.inj (hreads 2 (by simp))
  have hshort := returnShort_stacked (s := (s.setPC pc).setPBR pbr) (n := n) (h := h) hpage (hcells.hit (by decide))
    (hcells.hit (by decide)) hlow hhigh
  rw [BitVec.sub_add_cancel] at hshort
  have hpull := pull8_stacked (s := s.setPBR pbr) (n - 1 - 1) h (pushReturn (push8 s.pbr s)).ram hpage
    (hcells.hit (j := 0) (by decide))
  rw [← hbank, stacked_zero] at hpull
  rw [returnLong, hshort]
  exact congrArg (fun b => State.setPBR b.2 b.1) hpull

end Undoes

/-- A jump leaves the stack and RAM as they are. -/
theorem jumpIndexed_stacked (p : Word) (s : State) (k : Nat) (n : Int) (h : HostSide) (m : Memory) :
    let t := jumpIndexed p (stacked s k n h m)
    t = stacked (s.setPC t.pc) k t.cycles t.host m := by
  have hpointer (pc : Word) : spAfter (s.setPC pc) k = spAfter s k := rfl
  apply State.ext_fields <;> simp [jumpIndexed, stacked, hpointer]

/-- The other fields of a return's state do not depend on its cycle counter. -/
theorem eq_with_own_cycles {s u : State} {n : Int} {h : HostSide} {m : Memory}
    (hu : u = { s with cycles := n, host := h, ram := m }) :
    u = { s with cycles := u.cycles, host := h, ram := m } := by
  rw [hu]

/-- Settles O47: the pulls of a return read back what the pushes of its call stored, in the reverse order. -/
theorem returnUndoesCall : Obligations.ReturnUndoesCall := by
  unfold Obligations.ReturnUndoesCall
  refine fun s hwf hpage => ⟨fun w ⟨cell, hcells⟩ => ?jsrAbs, fun p ⟨cell, hcells⟩ => ?jsrXInd,
    fun l ⟨cell, hcells⟩ => ?jsl⟩
  case jsrAbs =>
    have hcall := congrArg (State.setPC · w) (pushReturn_eq_stacked hwf hcells)
    have hreturn := (congrArg returnShort hcall).trans (returnShort_pushReturn _ _ w hwf hpage hcells)
    exact ⟨_, _, rfl, rfl, eq_with_own_cycles hreturn⟩
  case jsrXInd =>
    have hcall := jumpIndexed_stacked p s 2 (pushReturn s).cycles s.host (pushReturn s).ram
    rw [← pushReturn_eq_stacked hwf hcells] at hcall
    have hreturn := (congrArg returnShort hcall).trans (returnShort_pushReturn _ _ _ hwf hpage hcells)
    have hram : (jumpIndexed p (pushReturn s)).ram = (pushReturn s).ram := by simp [jumpIndexed]
    exact ⟨_, _, rfl, rfl, eq_with_own_cycles (hram ▸ hreturn)⟩
  case jsl =>
    have hcall := congrArg (jumpLong l) (pushReturn_push8_eq_stacked hwf hcells)
    have hreturn :=
      returnLong_pushReturn (pushReturn (push8 s.pbr s)).cycles s.host (offOf l) hwf hpage (bankOf l) hcells
    exact ⟨_, _, rfl, rfl, eq_with_own_cycles ((congrArg returnLong hcall).trans hreturn)⟩

end Sys2Proof.Machine
end

section
/-! PROOFS. The stack instructions (46_stack.md R350 to R369): what a push and a pull change, the cells a run of pushes
stores to, and the status byte as it is pulled. -/

namespace Sys2Proof.Machine

open Sys2Proof.Claims

/-! ### The primitives -/

section Primitives

variable (s : State)

/-- `Push8` writes at 00:S, and then S moves down (46_stack.md R350). -/
theorem push8_eq (v : Byte) : push8 v s = { write8 (bank0 s.s) v s with s := spAfter s 1 } := by
  rw [← stackDown_spAfter, spAfter_zero]
  rfl

/-- `Pull8` moves S up, and then reads at 00:S (46_stack.md R351). -/
theorem pull8_eq : pull8 s = read8 (bank0 (spUp s 1)) { s with s := spUp s 1 } :=
  pull8_of_spUp rfl (spUp_zero s).symm

theorem pull8_s : (pull8 s).2.s = spUp s 1 := by
  simp [pull8_eq]

theorem pull8_pull8_s : (pull8 (pull8 s).2).2.s = spUp s 2 := by
  have hsecond := pull8_of_spUp (s := s) (k := 1) (by simp) (pull8_s s)
  simp [hsecond]

theorem pull8_eq_readBy : (pull8 s).2 = { readBy s (pull8 s).2 with s := spUp s 1 } := by
  apply State.ext_fields <;> simp [readBy, pull8_s]

theorem pull16_eq_readBy : (pull16 s).2 = { readBy s (pull8 (pull8 s).2).2 with s := spUp s 2 } := by
  apply State.ext_fields <;> simp [readBy, pull16, pull8_pull8_s]

/-- The low byte is pulled first (46_stack.md R353). -/
theorem toNat_pull16 : (pull16 s).1.toNat = (pull8 s).1.toNat + 256 * (pull8 (pull8 s).2).1.toNat := by
  rw [pull16, toNat_join, Nat.mul_comm, Nat.add_comm]

end Primitives

/-- Settles O48: S moves as its arithmetic says, and the word's two bytes are pushed and pulled one by one. -/
theorem stackPrimitives : Obligations.StackPrimitives := by
  unfold Obligations.StackPrimitives
  exact fun s v w => ⟨push8_eq s v, pull8_eq s, push16_eq_pushAll s w, toNat_pull16 s, pull16_eq_readBy s⟩

/-! ### Pushes -/

section PushRuns

variable (s : State) (bytes : List Byte)

theorem push_widthOf (eight : Bool) (v : Word) :
    push (widthOf eight) ((widthOf eight).trunc v) s = pushAll (atWidth eight v) s := by
  cases eight with
  | true => exact congrArg (push8 · s) ((lo_trunc _ v).trans (lo_eq_ofNat v))
  | false => exact (congrArg (push16 · s) (trunc_w16 v)).trans (push16_eq_pushAll s v)

/-- Each push instruction pushes its bytes. -/
theorem exec_of_pushForm {i : Instr} (h : pushForm s i = some bytes) : exec i s = .next (pushAll bytes s) := by
  unfold pushForm at h
  split at h <;> cases h
  case h_1 => exact congrArg Host.Outcome.next (push_widthOf s s.m8 s.a)
  case h_2 => exact congrArg Host.Outcome.next (push_widthOf s s.x8 s.x)
  case h_3 => exact congrArg Host.Outcome.next (push_widthOf s s.x8 s.y)
  case h_6 => exact congrArg Host.Outcome.next (push16_eq_pushAll s s.dp)
  case h_8 w => exact congrArg Host.Outcome.next (push16_eq_pushAll s w)
  case h_9 r =>
    rw [word_toNat_add_toNat]
    exact congrArg Host.Outcome.next (push16_eq_pushAll s (s.pc + r))
  all_goals rfl

theorem pushAll_eq_stackBy : pushAll bytes s = stackBy s (pushAll bytes s) := by
  apply State.ext_fields <;> simp [stackBy, writeBy]

theorem push8_ram_read {v : Byte} {n : Nat} (h : ¬ hits s (bank0 s.s) n) : (push8 v s).ram.read n = s.ram.read n :=
  write8_ram_read _ v s n h

/-- A cell that no push stores to keeps its byte: neither the first pushes nor the last one change it. -/
theorem pushAll_ram_read {n : Nat} (h : ¬ pushHits s bytes n) : (pushAll bytes s).ram.read n = s.ram.read n := by
  induction bytes using List.reverseRecOn with
  | nil => rfl
  | append_singleton bytes v ih =>
    have hfirst : ¬ pushHits s bytes n := fun ⟨k, hk, hhit⟩ =>
      h ⟨k, by rw [List.length_append]; omega, by rwa [List.take_append_of_le_length hk.le]⟩
    have hlast : ¬ hits (pushAll bytes s) (bank0 (pushAll bytes s).s) n := fun hhit =>
      h ⟨bytes.length, by simp, by rwa [List.take_left, ← pushAll_s]⟩
    rw [pushAll_concat, push8_ram_read _ hlast, ih hfirst]

end PushRuns

/-- Settles O49: a push instruction runs `pushAll` on its bytes, and a run of pushes changes S and its own cells. -/
theorem pushResults : Obligations.PushResults := by
  unfold Obligations.PushResults
  refine ⟨by unfold codesAre; decide, fun _ _ => ⟨rfl, rfl, rfl⟩, fun s => ⟨fun i bytes => exec_of_pushForm s bytes,
    fun d => ?pei, fun bytes => ⟨pushAll_eq_stackBy s bytes, pushAll_s bytes s, fun n => pushAll_ram_read s bytes⟩⟩⟩
  case pei => exact congrArg Host.Outcome.next (push16_eq_pushAll _ _)

/-! ### The status byte -/

theorem byte_getLsbD_eq_decide (b : Byte) (k : Nat) : b.getLsbD k = decide (b.toNat / 2 ^ k % 2 = 1) :=
  Nat.testBit_eq_decide_div_mod_eq

theorem zext_lo_eq_word (w : Word) : zext (lo w) = word (w.toNat % 256) := by
  rw [← word_toNat (zext (lo w)), toNat_zext, toNat_lo]

/-- The unpacking that e selects, with the event of 10_state.md R40. -/
theorem unpack_eq_flags (s : State) (b : Byte) :
    s.unpack b =
      let f := if s.e then flagsE b else flagsN b
      { s with p := f, x := if f.ex then zext (lo s.x) else s.x, y := if f.ex then zext (lo s.y) else s.y } := by
  rw [State.unpack]
  split
  · rfl
  · rw [State.unpackN]
    by_cases hex : (flagsN b).ex = true
    · simp only [if_pos hex]
      rfl
    · simp only [if_neg hex]
      rfl

/-- The flags of that unpacking: in emulation mode bits 4 and 5 count as 0 (10_state.md R43, R44; decision D65). -/
theorem unpack_eq (s : State) (b : Byte) :
    s.unpack b =
      let bit (k : Nat) : Bool := decide (b.toNat / 2 ^ k % 2 = 1)
      let ex := !s.e && bit 4
      { s with
        p := { c := bit 0, z := bit 1, i := bit 2, d := bit 3, ex := ex, m := !s.e && bit 5, v := bit 6, n := bit 7 }
        x := if ex then word (s.x.toNat % 256) else s.x
        y := if ex then word (s.y.toNat % 256) else s.y } := by
  have hflags : (if s.e then flagsE b else flagsN b) =
      { c := b.getLsbD 0, z := b.getLsbD 1, i := b.getLsbD 2, d := b.getLsbD 3, ex := !s.e && b.getLsbD 4,
        m := !s.e && b.getLsbD 5, v := b.getLsbD 6, n := b.getLsbD 7 } := by
    cases s.e <;> rfl
  rw [unpack_eq_flags, hflags]
  simp only [byte_getLsbD_eq_decide, zext_lo_eq_word]

/-! ### Pulls -/

section PullInstructions

variable (s : State)

/-- `s`, but for what a pull may change: what a read may change, and S. -/
def pulledBy (t : State) : State := { readBy s t with s := t.s }

theorem pull_eq_pulledBy (w : Width) : (pull w s).2 = pulledBy s (pull w s).2 := by
  apply State.ext_fields <;> simp [pulledBy, readBy]

theorem pull8_eq_pulledBy : (pull8 s).2 = pulledBy s (pull8 s).2 := pull_eq_pulledBy s .w8

theorem pullAcc_eq : pullAcc s =
    let v := pull s.wM s
    { v.2 with a := accOf s v.1.toNat, p := nzOf s.m8 v.1.toNat s.p } := by
  dsimp only [pullAcc]
  rw [pull_eq_pulledBy]
  exact setAcc_setNZ_eq (pulledBy s _) _

theorem pullX_eq : pullX s =
    let v := pull s.wX s
    { v.2 with x := idxOf s v.1.toNat, p := nzOf s.x8 v.1.toNat s.p } := by
  dsimp only [pullX]
  rw [pull_eq_pulledBy]
  exact putX_setNZ_eq (pulledBy s _) _

theorem pullY_eq : pullY s =
    let v := pull s.wX s
    { v.2 with y := idxOf s v.1.toNat, p := nzOf s.x8 v.1.toNat s.p } := by
  dsimp only [pullY]
  rw [pull_eq_pulledBy]
  exact putY_setNZ_eq (pulledBy s _) _

theorem pullDBR_eq : pullDBR s =
    let v := pull8 s
    { v.2 with dbr := v.1, p := nzOf true v.1.toNat s.p } := by
  have hflags : setNZ .w8 (zext (pull8 s).1) s.p = nzOf true (pull8 s).1.toNat s.p := by
    rw [← toNat_zext]
    exact setNZ_widthOf true _ _
  apply State.ext_fields <;> simp [pullDBR, hflags]

theorem pullDP_eq : pullDP s =
    let v := pull16 s
    { v.2 with dp := v.1, p := nzOf false v.1.toNat s.p } := by
  apply State.ext_fields <;> simp [pullDP, setNZ_w16_eq]

theorem pullP_eq : pullP s =
    let v := pull8 s
    let bit (k : Nat) : Bool := decide (v.1.toNat / 2 ^ k % 2 = 1)
    let ex := !s.e && bit 4
    { v.2 with
      p := { c := bit 0, z := bit 1, i := bit 2, d := bit 3, ex := ex, m := !s.e && bit 5, v := bit 6, n := bit 7 }
      x := if ex then word (s.x.toNat % 256) else s.x
      y := if ex then word (s.y.toNat % 256) else s.y } := by
  dsimp only [pullP]
  rw [pull8_eq_pulledBy]
  exact unpack_eq (pulledBy s _) _

end PullInstructions

/-- Settles O50: the pull of each instruction is one of a byte, of a word, or at the width of its register. -/
theorem pullResults : Obligations.PullResults := by
  unfold Obligations.PullResults
  refine ⟨by unfold codesAre; decide, fun s => ?_⟩
  intro pulled vM vX v bit ex
  have hbyte : v = ((pull8 s).1.toNat, (pull8 s).2) := Prod.ext rfl (pull8_eq_readBy s).symm
  have hword : pulled false = ((pull16 s).1.toNat, (pull16 s).2) :=
    Prod.ext (toNat_pull16 s).symm (pull16_eq_readBy s).symm
  have hwidth (eight : Bool) : pulled eight = ((pull (widthOf eight) s).1.toNat, (pull (widthOf eight) s).2) := by
    cases eight with
    | true => exact hbyte.trans (congrArg (·, (pull8 s).2) (toNat_zext _).symm)
    | false => exact hword
  have hM : vM = ((pull s.wM s).1.toNat, (pull s.wM s).2) := hwidth s.m8
  have hX : vX = ((pull s.wX s).1.toNat, (pull s.wX s).2) := hwidth s.x8
  refine ⟨congrArg Host.Outcome.next ?pla, congrArg Host.Outcome.next ?plx, congrArg Host.Outcome.next ?ply,
    congrArg Host.Outcome.next ?plb, congrArg Host.Outcome.next ?pld, congrArg Host.Outcome.next ?plp⟩
  case pla => rw [hM, pullAcc_eq]
  case plx => rw [hX, pullX_eq]
  case ply => rw [hX, pullY_eq]
  case plb => rw [hbyte, pullDBR_eq, BitVec.ofNat_toNat, BitVec.setWidth_eq]
  case pld => rw [hword, pullDP_eq, word_toNat]
  case plp =>
    have hstate : v.2 = (pull8 s).2 := congrArg Prod.snd hbyte
    rw [hstate]
    exact pullP_eq s

end Sys2Proof.Machine
end

section
/-! PROOFS. The flag, mode and system instructions (47_flags_mode_system.md R380 to R403): the bits that REP and SEP
select, the exchange of XCE, and the pulls of RTI. -/

namespace Sys2Proof.Machine

open Sys2Proof.Claims

/-! ### One flag, and the two halts -/

/-- STP moves PC back by one, modulo 65536 (47_flags_mode_system.md R398). -/
theorem stopClock_eq (s : State) :
    stopClock s = { s with pc := word (s.pc.toNat + 65535), cycles := s.cycles - s.cfg.stpCycles } := by
  rw [← sub_one_eq_word]
  rfl

/-- Settles O52: each of these meanings is one write of a field, and STP's is `stopClock_eq`. -/
theorem flagAndHaltResults : Obligations.FlagAndHaltResults := by
  unfold Obligations.FlagAndHaltResults
  exact ⟨by unfold codesAre; decide, fun _ => rfl, fun s => ⟨rfl, rfl, rfl, rfl, rfl, rfl, rfl, rfl, fun _ => rfl, rfl,
    congrArg Host.Outcome.next (stopClock_eq s)⟩⟩

/-! ### REP and SEP -/

theorem flagsN_or (a b : Byte) :
    flagsN (a ||| b) =
      let f := flagsN a
      let g := flagsN b
      { c := f.c || g.c, z := f.z || g.z, i := f.i || g.i, d := f.d || g.d, ex := f.ex || g.ex, m := f.m || g.m,
        v := f.v || g.v, n := f.n || g.n } := by
  simp only [flagsN, BitVec.getLsbD_or]

theorem flagsN_and_not (a b : Byte) :
    flagsN (a &&& ~~~b) =
      let f := flagsN a
      let g := flagsN b
      { c := f.c && !g.c, z := f.z && !g.z, i := f.i && !g.i, d := f.d && !g.d, ex := f.ex && !g.ex, m := f.m && !g.m,
        v := f.v && !g.v, n := f.n && !g.n } := by
  simp [flagsN]

/-- The bits of the mask that count: in emulation mode bits 4 and 5 do not (decision D64). -/
theorem flagsN_statusMask (e : Bool) (k : Byte) :
    flagsN (statusMask e k) =
      let bit (j : Nat) : Bool := decide (k.toNat / 2 ^ j % 2 = 1)
      { c := bit 0, z := bit 1, i := bit 2, d := bit 3, ex := !e && bit 4, m := !e && bit 5, v := bit 6,
        n := bit 7 } := by
  simp only [← byte_getLsbD_eq_decide]
  cases e with
  | true => simp [statusMask, flagsN]
  | false => rfl

/-- Native unpacking with the event of 10_state.md R40, in either mode. -/
theorem unpackN_eq_flags (s : State) (b : Byte) :
    s.unpackN b =
      let f := flagsN b
      { s with
        p := f
        x := if f.ex then word (s.x.toNat % 256) else s.x
        y := if f.ex then word (s.y.toNat % 256) else s.y } := by
  simp only [State.unpackN, ← zext_lo_eq_word]
  by_cases hex : (flagsN b).ex = true
  · simp only [if_pos hex]
    rfl
  · simp only [if_neg hex]
    rfl

/-- Settles O53: both unpack the packed flags after one bitwise step, so each flag meets its own bit of the mask. -/
theorem repSepResults : Obligations.RepSepResults := by
  unfold Obligations.RepSepResults
  refine ⟨fun _ => ⟨rfl, rfl⟩, fun s k => ?_⟩
  intro bit width put
  have hrep : resetBits k s = put (flagsN (packN s.p &&& ~~~statusMask s.e k)) := unpackN_eq_flags s _
  have hsep : setBits k s = put (flagsN (packN s.p ||| statusMask s.e k)) := unpackN_eq_flags s _
  rw [flagsN_and_not, flagsN_packN, flagsN_statusMask] at hrep
  rw [flagsN_or, flagsN_packN, flagsN_statusMask] at hsep
  exact ⟨congrArg Host.Outcome.next hrep, congrArg Host.Outcome.next hsep⟩

/-! ### XCE -/

/-- The writes on entry to emulation mode (decisions D63, D72). -/
theorem enterEmulation_eq (t : State) :
    enterEmulation t = { t with
      s := word (0x100 + t.s.toNat % 256), x := word (t.x.toNat % 256), y := word (t.y.toNat % 256) } := by
  rw [← toNat_lo t.s, ← join_one_eq_word, ← zext_lo_eq_word, ← zext_lo_eq_word]
  rfl

/-- Settles O54: c before the exchange is e after it, and decides whether emulation mode is entered. -/
theorem xceResult : Obligations.XceResult := by
  unfold Obligations.XceResult
  refine ⟨by unfold codesAre; decide, fun s => ?_⟩
  refine congrArg Host.Outcome.next ?_
  cases hc : s.p.c with
  | true =>
    simp only [exchangeCE, hc, if_true, enterEmulation_eq]
    rfl
  | false =>
    simp only [exchangeCE, hc, Bool.false_eq_true, if_false]
    rfl

/-! ### RTI -/

/-- A read neither sees nor changes the flags and the index registers. -/
theorem read8_unpack (a : Addr) (b : Byte) (t : State) :
    read8 a (t.unpack b) = ((read8 a t).1, (read8 a t).2.unpack b) := by
  obtain ⟨hvalue, hhost⟩ := read8_congr (t.unpack b) t a (by simp) (by simp) (by simp) (by simp) (by simp)
  refine Prod.ext hvalue ?_
  apply State.ext_fields
  case h_host => simp [hhost]
  all_goals simp [unpack_eq_flags]

/-- The status byte may be unpacked after a pull as well as before it. -/
theorem pull8_unpack (b : Byte) (t : State) : pull8 (t.unpack b) = ((pull8 t).1, (pull8 t).2.unpack b) := by
  have hpointer (v : Word) : (t.unpack b).setS v = (t.setS v).unpack b := by
    simp only [unpack_eq_flags]
    rfl
  simp [pull8, hpointer, read8_unpack]

theorem pull16_unpack (b : Byte) (t : State) : pull16 (t.unpack b) = ((pull16 t).1, (pull16 t).2.unpack b) := by
  simp only [pull16, pull8_unpack]

theorem pull8_setPC (pc : Word) (t : State) : pull8 (t.setPC pc) = ((pull8 t).1, (pull8 t).2.setPC pc) :=
  read8_setPC _ pc (t.setS (stackUp t.e t.s))

/-- RTI with its pulls first: none of them depends on the status byte or on PC. -/
theorem returnFromInterrupt_eq (s : State) :
    returnFromInterrupt s =
      let p := pull8 s
      let target := pull16 p.2
      let bank := pull8 target.2
      if s.e then (target.2.unpack p.1).setPC target.1
      else ((bank.2.unpack p.1).setPC target.1).setPBR bank.1 := by
  simp only [returnFromInterrupt, pull16_unpack, pull8_setPC, pull8_unpack]

/-- Settles O56: the pulls read the bytes above S in turn, and the unpacking changes no other register. -/
theorem returnFromInterruptResult : Obligations.ReturnFromInterruptResult := by
  unfold Obligations.ReturnFromInterruptResult
  refine ⟨by unfold codesAre; decide, fun s => ?_⟩
  intro b0 b1 b2 b3 bit target
  refine congrArg Host.Outcome.next ?_
  have hstatus : pull8 s = b0 := pull8_eq s
  have hlow : pull8 b0.2 = b1 := pull8_of_spUp (by simp [b0]) (by simp [b0])
  have hhigh : pull8 b1.2 = b2 := pull8_of_spUp (by simp [b0, b1]) (by simp [b1])
  have hbank : pull8 b2.2 = b3 := pull8_of_spUp (by simp [b0, b1, b2]) (by simp [b2])
  have htarget : pull16 b0.2 = (target, b2.2) := by rw [pull16, hlow, hhigh, join_eq_word]
  rw [returnFromInterrupt_eq, hstatus]
  dsimp only
  rw [htarget, hbank]
  cases he : s.e with
  | true => apply State.ext_fields <;> simp [unpack_eq, readBy, he, b0, b1, b2, bit]
  | false => apply State.ext_fields <;> simp [unpack_eq, readBy, he, b0, b1, b2, b3, bit]

end Sys2Proof.Machine
end

section
/-! PROOFS. One iteration of the run loop (60_exceptions.md R500, R502, R514): the bytes of an instruction always decode,
so every step answers a next state; and what a reset keeps (70_reset_and_hazards.md R600 to R602). -/

namespace Sys2Proof.Machine

open Sys2Proof.Claims

/-! ### Every step answers -/

/-- The fetch reads the operand bytes that the opcode's form asks for (30_encoding.md R138). -/
theorem exists_decode_fetchInstr (s : State) : ∃ r, decode s.m8 s.x8 (fetchInstr s).1 = .ok r :=
  Laws.exists_decodeForm (by rw [fetchBytes_length])

theorem exists_runInstr (s : State) : ∃ u, runInstr s = .next u := by
  obtain ⟨r, hdecode⟩ := exists_decode_fetchInstr s
  exact ⟨_, by rw [runInstr, hdecode]; exact exec_eq_run r.1 _⟩

theorem step_of_runInstr {s u : State} (hwai : s.wai = false) (hrun : runInstr s = .next u) :
    step s = .next (endIteration u) := by
  simp [step, iteration, hwai, hrun]

theorem step_of_wai {s : State} (hwai : s.wai = true) : step s = .next (idle s) :=
  if_pos hwai

/-- Settles O9: a waiting step is an idle iteration, and any other step runs an instruction, which answers. -/
theorem stepAlwaysAnswersNext : Obligations.StepAlwaysAnswersNext := by
  unfold Obligations.StepAlwaysAnswersNext
  intro s
  cases hwai : s.wai with
  | true => exact ⟨_, step_of_wai hwai⟩
  | false =>
    obtain ⟨u, hrun⟩ := exists_runInstr s
    exact ⟨_, step_of_runInstr hwai hrun⟩

/-! ### The instruction at PBR:PC -/

/-- Where a fetch reads the bytes of a well-formed instruction, the fetch of an instruction is that fetch. -/
theorem fetchInstr_of_encode {s : State} {i : Instr} (hwf : i.wf s.m8 s.x8 = true)
    (hbytes : (fetchBytes (encode i).length s).1 = encode i) : fetchInstr s = fetchBytes (encode i).length s := by
  have hlen : (encode i).length = (formOf i.opcode).operandBytes s.m8 s.x8 + 1 :=
    congrArg (· + 1) (Laws.operand_length hwf)
  rw [hlen, fetchBytes_succ] at hbytes
  have hop : (fetch8 s).1 = i.opcode := List.head_eq_of_cons_eq hbytes
  rw [hlen, fetchBytes_succ, fetchInstr, hop]

/-- Settles O7: the bytes decode to the instruction, and the iteration ends with the boundary and the yield test. -/
theorem stepRunsDecodedInstruction : Obligations.StepRunsDecodedInstruction := by
  unfold Obligations.StepRunsDecodedInstruction
  intro s i hwai hwf hbytes
  have hdecode : decode s.m8 s.x8 (encode i) = .ok (i, []) := by
    simpa using Laws.decodeOfEncode s.m8 s.x8 i [] hwf
  have hrun : runInstr s = exec i (fetchBytes (encode i).length s).2 := by
    rw [runInstr, fetchInstr_of_encode hwf hbytes, hbytes, hdecode]
  rw [exec_eq_run] at hrun ⊢
  exact step_of_runInstr hwai hrun

/-! ### Waiting -/

theorem sampleLines_of_no_plan {s : State} (h : s.host.inputs = []) : sampleLines s = s := by
  rw [sampleLines, h]

/-- No request but a masked IRQ: no event is taken (60_exceptions.md R507; decision D36). -/
theorem takeEvent_of_none {s : State} (hreset : s.lines.reset = false) (hnmi : s.lines.nmi = false)
    (hirq : s.lines.irq = false ∨ s.p.i = true) : takeEvent s = s := by
  have hmasked : ¬ (s.lines.irq && !s.p.i) = true := by simpa [or_iff_not_imp_left] using hirq
  simp only [takeEvent, hreset, hnmi, hmasked, Bool.false_eq_true, if_false]

/-- Settles O8: an idle iteration debits, and without an event and a request its end changes nothing. -/
theorem waitingStepFetchesNothing : Obligations.WaitingStepFetchesNothing := by
  unfold Obligations.WaitingStepFetchesNothing
  refine fun s hwai => ⟨step_of_wai hwai, fun hplan hreset hnmi hirq hyield => ?_⟩
  have hboundary : boundary (s.debit s.cfg.waiIdleCycles) = s.debit s.cfg.waiIdleCycles := by
    rw [boundary, sampleLines_of_no_plan (by simpa using hplan)]
    exact takeEvent_of_none hreset hnmi hirq
  have hcheck : yieldCheck (s.debit s.cfg.waiIdleCycles) = s.debit s.cfg.waiIdleCycles :=
    if_neg (by simpa using hyield)
  rw [step_of_wai hwai, idle, endIteration, hboundary, hcheck]
  rfl

/-! ### Reset and init -/

/-- Settles O11: X, Y and both arrays are blank, S is in page 1, and no yield is requested. -/
theorem resetStateMeetsInvariant : Obligations.ResetStateMeetsInvariant := by
  unfold Obligations.ResetStateMeetsInvariant State.Inv
  decide

@[simp] theorem resetRegisters_frame (s : State) :
    (resetRegisters s).ram = s.ram ∧ (resetRegisters s).rom = s.rom ∧ (resetRegisters s).nvb = s.nvb ∧
    (resetRegisters s).cfg = s.cfg ∧ (resetRegisters s).lines = { s.lines with reset := false } :=
  ⟨rfl, rfl, rfl, rfl, rfl⟩

/-- What a reset keeps (70_reset_and_hazards.md R602). -/
@[simp] theorem doReset_frame (s : State) :
    (doReset s).ram = s.ram ∧ (doReset s).rom = s.rom ∧ (doReset s).nvb = s.nvb ∧ (doReset s).cfg = s.cfg ∧
    (doReset s).lines = { s.lines with reset := false } := by
  simp [doReset]

/-- Settles O17: `init` is a reset of the machine with the image and the bank installed, which a reset keeps. -/
theorem initInstallsImageAndResets : Obligations.InitInstallsImageAndResets := by
  unfold Obligations.InitInstallsImageAndResets
  refine ⟨fun w rom nvb => ⟨_, rfl, rfl, ?rom, ?nvb, ?ram, ?cfg, fun hparams => ?pc⟩, fun _ _ _ _ => rfl,
    fun _ _ => rfl, fun _ => rfl, fun _ _ => rfl⟩
  case rom | nvb | ram | cfg => simp [doInit, powerOn]
  case pc =>
    have htable := resetLeavesTheTable (((powerOn w).setRom rom).setNvb nvb) hparams
    exact congrArg State.pc htable

end Sys2Proof.Machine
end

section
/-! PROOFS. Interrupt entry and return (60_exceptions.md R505 to R511): the entry sequence in arithmetic, the event that
a boundary takes, and the return that reverses an entry. -/

namespace Sys2Proof.Machine

open Sys2Proof.Claims

/-! ### The entry sequence -/

section Entry

variable (k : Event) (s : State)

theorem breakBit_eq : k.breakBit = (k == .brk || k == .cop) := by
  cases k <;> rfl

theorem pushFrame_eq_pushAll : pushFrame k s = pushAll (frameOf k s) s := by
  rw [pushFrame, frameOf]
  split
  · rw [pushAll_concat, push16_eq_pushAll, breakBit_eq]
  · rw [pushAll_concat, pushAll_cons, push16_eq_pushAll]

theorem frameOf_length : (frameOf k s).length = if s.e then 3 else 4 := by
  rw [frameOf]
  split <;> rfl

/-- The vector of an event and the mode (60_exceptions.md R509). -/
theorem vector_eq_word :
    (if s.e then vectorEmul k else vectorNative k) = word (if s.e then emulationVector k else nativeVector k) := by
  cases k <;> cases s.e <;> rfl

theorem readPointer_of_word (bank : Byte) (n : Nat) :
    readPointer bank (word n) s =
      let low := read8 (addr bank (word n)) s
      let high := read8 (addr bank (word (n + 1))) low.2
      (word (low.1.toNat + 256 * high.1.toNat), high.2) := by
  have hnext : word n + 1 = word (n + 1) := (BitVec.ofNat_add n 1).symm
  rw [readPointer, hnext, join_eq_word]

theorem interrupt_eq_entered : interrupt k s = entered k s := by
  rw [interrupt, vector_eq_word, pushFrame_eq_pushAll]
  dsimp only
  rw [readPointer_of_word]
  rfl

/-- An entry keeps what its pushes, the flags i and d, PBR, wai and PC do not hold. -/
theorem entered_eq : entered k s = { stackBy s (entered k s) with
    s := spAfter s (if s.e then 3 else 4)
    p := { s.p with i := true, d := false }, pbr := 0, wai := false, pc := (entered k s).pc } := by
  apply State.ext_fields <;> simp [entered, stackBy, writeBy, pushAll_s, frameOf_length]

theorem entered_ram : (entered k s).ram = (pushAll (frameOf k s) s).ram := by
  simp [entered]

end Entry

/-- Settles O55: the entry is its pushes, four register writes and the read of the vector. -/
theorem interruptEntryResult : Obligations.InterruptEntryResult := by
  unfold Obligations.InterruptEntryResult
  refine ⟨fun _ => ⟨rfl, rfl⟩, fun s => ⟨fun _ => ⟨?brk, ?cop⟩,
    fun k => ⟨interrupt_eq_entered k s, entered_eq k s, fun n hn => ?ram⟩⟩⟩
  case brk => exact congrArg Host.Outcome.next (interrupt_eq_entered .brk s)
  case cop => exact congrArg Host.Outcome.next (interrupt_eq_entered .cop s)
  case ram => rw [entered_ram, pushAll_ram_read s _ hn]

/-! ### The boundary -/

@[simp] theorem interrupt_lines (k : Event) (s : State) : (interrupt k s).lines = s.lines :=
  (interrupt_writes s k).lines

theorem takeEvent_of_reset {s : State} (hreset : s.lines.reset = true) : takeEvent s = doReset s :=
  if_pos hreset

theorem takeEvent_of_nmi {s : State} (hreset : s.lines.reset = false) (hnmi : s.lines.nmi = true) :
    takeEvent s = interrupt .nmi (nmiAck s) := by
  simp [takeEvent, hreset, hnmi]

theorem takeEvent_of_irq {s : State} (hreset : s.lines.reset = false) (hnmi : s.lines.nmi = false)
    (hirq : s.lines.irq = true) (hi : s.p.i = false) : takeEvent s = interrupt .irq s := by
  simp [takeEvent, hreset, hnmi, hirq, hi]

/-- A sample changes neither the flags nor the record of the calls. -/
theorem sampleLines_frame (s : State) : (sampleLines s).p = s.p ∧ (sampleLines s).host.calls = s.host.calls := by
  unfold sampleLines
  split <;> exact ⟨rfl, rfl⟩

/-- Settles O13: one clause for each branch of `takeEvent`, on the state with the sampled bits. -/
theorem boundaryTakesOneEventByPriority : Obligations.BoundaryTakesOneEventByPriority := by
  unfold Obligations.BoundaryTakesOneEventByPriority
  intro s sampled l
  have hboundary : boundary s = takeEvent sampled := rfl
  obtain ⟨hp, hcalls⟩ : sampled.p = s.p ∧ sampled.host.calls = s.host.calls := sampleLines_frame s
  rw [hboundary, ← hp, ← hcalls]
  refine ⟨fun hreset => ?reset, fun hreset hnmi => ?nmi, fun hreset hnmi hirq hi => ?irq,
    fun hreset hnmi hirq => takeEvent_of_none hreset hnmi hirq⟩
  case reset =>
    rw [takeEvent_of_reset hreset]
    exact ⟨rfl, by simp [l]⟩
  case nmi =>
    rw [takeEvent_of_nmi hreset hnmi]
    exact ⟨interrupt_eq_entered _ _, interrupt_lines _ _⟩
  case irq =>
    rw [takeEvent_of_irq hreset hnmi hirq hi]
    exact ⟨interrupt_eq_entered _ _, interrupt_lines _ _⟩

/-! ### The return -/

section Return

variable {k : Event} {s : State} {cell : Nat → Nat}

/-- The frame ends with PC, high byte first, and the status byte; in native mode PBR stands below them. -/
theorem frameOf_eq : frameOf k s = (if s.e then [] else [s.pbr]) ++ [hi s.pc, lo s.pc, s.pack k.breakBit] := by
  rw [frameOf, highFirst_eq, State.pack, breakBit_eq]
  cases s.e <;> rfl

/-- Unpacking the status byte that was packed in the same mode: in emulation mode the stored m and ex are lost
(decision D65), and no high byte of an index register is cleared that is not 0. -/
theorem unpack_pack {t : State} (brk : Bool) (he : t.e = s.e) (hx : t.x = s.x) (hy : t.y = s.y)
    (hindex : s.indexHighOk = true) :
    t.unpack (s.pack brk) = t.setP (if s.e then { s.p with m := false, ex := false } else s.p) := by
  rw [State.unpack, State.pack, he]
  cases hmode : s.e with
  | true => exact congrArg t.setP (flagsE_packE brk s.p)
  | false =>
    simp only [Bool.false_eq_true, if_false, State.unpackN, flagsN_packN]
    split
    · next hex =>
      obtain ⟨hhighX, hhighY⟩ := (indexHighOk_iff s).mp hindex (by simp [State.x8, hex])
      apply State.ext_fields <;> simp [State.clearIndexHigh, zext_lo_of_hi, hx, hy, hhighX, hhighY]
    · rfl

/-- The registers and flags that an entry leaves, with S as before its pushes. -/
def entryRegisters (k : Event) (s : State) : State :=
  { s with p := { s.p with i := true, d := false }, pbr := 0, wai := false, pc := (entered k s).pc }

/-- RTI after its pulls of the status byte and PC. -/
theorem unpack_entryRegisters (hindex : s.indexHighOk = true) (brk : Bool) (n : Int) (h : HostSide) (m : Memory) :
    ((stacked (entryRegisters k s) 0 n h m).unpack (s.pack brk)).setPC s.pc =
      { s with
        cycles := n, host := h, ram := m, wai := false, pbr := 0
        p := if s.e then { s.p with m := false, ex := false } else s.p } := by
  have hunpack := unpack_pack (s := s) (t := stacked (entryRegisters k s) 0 n h m) brk rfl rfl rfl hindex
  rw [hunpack, stacked_zero]
  rfl

variable (hwf : s.ram.wf = true) (hpage : s.stackPageOk = true) (hcells : RamCells s (if s.e then 3 else 4) cell)

include hwf hcells

theorem frame_pushedToRam (k : Event) : PushedToRam cell (frameOf k s) s :=
  pushAll_pushedToRam hwf (by rwa [frameOf_length])

theorem interrupt_eq_stacked : interrupt k s = stacked (entryRegisters k s) (if s.e then 3 else 4)
    (interrupt k s).cycles (interrupt k s).host (interrupt k s).ram := by
  have hpushed := frame_pushedToRam hwf hcells k
  have hbanks : (entered k s).banks = s.banks := by simp [entered, hpushed.banks]
  have hyield : (entered k s).yieldReq = s.yieldReq := by simp [entered, hpushed.yieldReq]
  rw [interrupt_eq_entered]
  refine (entered_eq k s).trans ?_
  simp only [stackBy, writeBy, hbanks, hyield]
  rfl

/-- Each cell of the frame holds its byte after the entry. -/
theorem frame_reads (j : Nat) (hj : j < if s.e then 3 else 4) :
    (frameOf k s)[j]? = some ((interrupt k s).ram.read (cell j)) := by
  rw [interrupt_eq_entered, entered_ram]
  exact (frame_pushedToRam hwf hcells k).reads j (by rwa [frameOf_length])

include hpage

/-- RTI right after the entry: the pulls read the frame's bytes, the last one first. -/
theorem returnFromInterrupt_interrupt (hindex : s.indexHighOk = true) :
    ∃ n, returnFromInterrupt (interrupt k s) =
      { s with
        cycles := n, host := (interrupt k s).host, ram := (interrupt k s).ram, wai := false
        pbr := if s.e then 0 else s.pbr
        p := if s.e then { s.p with m := false, ex := false } else s.p } := by
  have hstacked := interrupt_eq_stacked (k := k) hwf hcells
  have hreads := frame_reads (k := k) hwf hcells
  have hmode : (interrupt k s).e = s.e := by rw [hstacked]; rfl
  have hrestored := unpack_entryRegisters (k := k) hindex k.breakBit
  rw [returnFromInterrupt_eq, hmode]
  generalize (interrupt k s).cycles = n, (interrupt k s).host = h, (interrupt k s).ram = m at hstacked hreads ⊢
  have hpull {j c : Nat} (n : Int) (hit : hits s (bank0 (spAfter s j)) c) :
      pull8 (stacked (entryRegisters k s) (j + 1) n h m) = (m.read c, stacked (entryRegisters k s) j (n - 1) h m) :=
    pull8_stacked n h m hpage hit
  rw [frameOf_eq] at hreads
  cases he : s.e with
  | true =>
    simp only [he, if_true] at hcells hreads hstacked hrestored ⊢
    have hhigh := Option.some.inj (hreads 0 (by decide))
    have hlow := Option.some.inj (hreads 1 (by decide))
    have hstatus := Option.some.inj (hreads 2 (by decide))
    rw [hstacked, hpull n (hcells.hit (j := 2) (by decide))]
    simp only [pull16, hpull _ (hcells.hit (j := 1) (by decide)), hpull _ (hcells.hit (j := 0) (by decide)), ← hhigh,
      ← hlow, ← hstatus, join_hi_lo]
    exact ⟨_, hrestored _ h m⟩
  | false =>
    simp only [he, Bool.false_eq_true, if_false] at hcells hreads hstacked hrestored ⊢
    have hbank := Option.some.inj (hreads 0 (by decide))
    have hhigh := Option.some.inj (hreads 1 (by decide))
    have hlow := Option.some.inj (hreads 2 (by decide))
    have hstatus := Option.some.inj (hreads 3 (by decide))
    rw [hstacked, hpull n (hcells.hit (j := 3) (by decide))]
    simp only [pull16, hpull _ (hcells.hit (j := 2) (by decide)), hpull _ (hcells.hit (j := 1) (by decide)),
      hpull _ (hcells.hit (j := 0) (by decide)), ← hbank, ← hhigh, ← hlow, ← hstatus, join_hi_lo]
    exact ⟨_, congrArg (State.setPBR · s.pbr) (hrestored _ h m)⟩

end Return

/-- Settles O57: the pulls of RTI read back the frame, and the unpacking restores the flags. -/
theorem returnReversesInterrupt : Obligations.ReturnReversesInterrupt := by
  unfold Obligations.ReturnReversesInterrupt
  intro k s hwf hpage hindex ⟨cell, hcells⟩
  obtain ⟨n, hreturn⟩ := returnFromInterrupt_interrupt (k := k) hwf hpage hcells hindex
  refine ⟨_, rfl, ?_⟩
  rw [hreturn]

end Sys2Proof.Machine
end

section
/-! PROOFS. The budget (60_exceptions.md R502, R503; decision D74): no instruction credits a cycle and every iteration
debits one, so the balance bounds the run of `exec`. -/

namespace Sys2Proof.Machine

open Sys2Proof.Claims

/-! ### No access credits a cycle -/

section Accesses

variable (s : State)

theorem read8_cycles_le (a : Addr) : (read8 a s).2.cycles ≤ s.cycles := by
  rw [read8_cycles]
  omega

theorem readPointer_cycles_le (bank : Byte) (off : Word) : (readPointer bank off s).2.cycles ≤ s.cycles := by
  rw [readPointer_cycles]
  omega

theorem resolve_cycles_le (m : AddrMode) : (resolve m s).2.cycles ≤ s.cycles := by
  rw [resolve_cycles]
  omega

theorem loadOp_cycles_le (o : Operand) (w : Width) : (loadOp o w s).2.cycles ≤ s.cycles := by
  cases o with
  | imm v => exact Int.le_refl _
  | mem m =>
    have hresolve := resolve_cycles_le s m
    rw [loadOp, memRead_cycles]
    omega

theorem storeOp_cycles_le (m : AddrMode) (w : Width) (v : Word) : (storeOp m w v s).cycles ≤ s.cycles := by
  have hresolve := resolve_cycles_le s m
  rw [storeOp, memWrite_cycles]
  omega

theorem push8_cycles_le (v : Byte) : (push8 v s).cycles ≤ s.cycles := by
  rw [push8_cycles]
  omega

theorem push16_cycles_le (v : Word) : (push16 v s).cycles ≤ s.cycles :=
  (push8_cycles_le _ _).trans (push8_cycles_le s _)

theorem push_cycles_le (w : Width) (v : Word) : (push w v s).cycles ≤ s.cycles := by
  cases w with
  | w8 => exact push8_cycles_le s _
  | w16 => exact push16_cycles_le s v

theorem pull8_cycles_le : (pull8 s).2.cycles ≤ s.cycles := by
  rw [pull8_cycles]
  omega

theorem pull16_cycles_le : (pull16 s).2.cycles ≤ s.cycles :=
  (pull8_cycles_le _).trans (pull8_cycles_le s)

theorem pull_cycles_le (w : Width) : (pull w s).2.cycles ≤ s.cycles := by
  cases w with
  | w8 => exact pull8_cycles_le s
  | w16 => exact pull16_cycles_le s

end Accesses

/-! ### No operation credits a cycle -/

/-- The balance is not higher after an operation than before it. -/
def NoCredit (f : State → State) : Prop := ∀ s, (f s).cycles ≤ s.cycles

/-- An operation that does not touch the cycle counter. -/
theorem NoCredit.of_eq {f : State → State} (h : ∀ s, (f s).cycles = s.cycles) : NoCredit f := fun s => (h s).le

theorem decimalCharge_noCredit : NoCredit decimalCharge := fun s => by
  unfold decimalCharge
  split
  · rw [debit_cycles]
    omega
  · exact Int.le_refl _

theorem putSum_cycles (r : AluResult) (s : State) : (putSum r s).cycles = s.cycles := by
  simp [putSum]

theorem adc_noCredit (o : Operand) : NoCredit (adc o) := fun s => by
  rw [adc, putSum_cycles]
  exact (decimalCharge_noCredit _).trans (loadOp_cycles_le s o _)

theorem sbc_noCredit (o : Operand) : NoCredit (sbc o) := fun s => by
  rw [sbc, putSum_cycles]
  exact (decimalCharge_noCredit _).trans (loadOp_cycles_le s o _)

theorem lda_noCredit (o : Operand) : NoCredit (lda o) := fun s => by
  simpa [lda] using loadOp_cycles_le s o _

theorem logic_noCredit (f : Word → Word → Word) (o : Operand) : NoCredit (logic f o) := fun s => by
  simpa [logic] using loadOp_cycles_le s o _

theorem rmwMem_cycles_le (f : Width → Word → Flags → Word × Flags) (m : AddrMode) (s : State) :
    (rmwMem f m s).cycles ≤ s.cycles := by
  have hresolve := resolve_cycles_le s m
  simp only [rmwMem, memWrite_cycles, setP_cycles, debit_cycles, memRead_cycles]
  omega

theorem rmwAcc_noCredit (f : Width → Word → Flags → Word × Flags) : NoCredit (rmwAcc f) :=
  .of_eq fun s => by simp [rmwAcc]

theorem stepX_noCredit (delta : Word) : NoCredit (stepX delta) := .of_eq fun _ => rfl

theorem stepY_noCredit (delta : Word) : NoCredit (stepY delta) := .of_eq fun _ => rfl

theorem branch_cycles (cond : Bool) (r : Byte) (s : State) : (branch cond r s).cycles = s.cycles := by
  unfold branch
  split <;> rfl

theorem unpackN_cycles (b : Byte) (s : State) : (s.unpackN b).cycles = s.cycles := by
  simp

theorem unpack_cycles (b : Byte) (s : State) : (s.unpack b).cycles = s.cycles := by
  simp

theorem transferAcc_cycles (v : Word) (s : State) : (transferAcc v s).cycles = s.cycles := by
  simp [transferAcc]

theorem jumpIndexed_noCredit (p : Word) : NoCredit (jumpIndexed p) := fun s => readPointer_cycles_le s _ _

theorem readPointerLong_cycles_le (p : Word) (s : State) : (readPointerLong p s).2.cycles ≤ s.cycles :=
  (read8_cycles_le _ _).trans (readPointer_cycles_le s 0 p)

theorem pushIndirect_noCredit (d : Byte) : NoCredit (pushIndirect d) := fun s => by
  have hpush : (pushIndirect d s).cycles ≤ (memRead .w16 .D (bank0 (dpSum s d)) (dpCharge s)).2.cycles :=
    push16_cycles_le _ _
  rw [memRead_cycles, dpCharge_cycles] at hpush
  omega

theorem pullAcc_noCredit : NoCredit pullAcc := fun s => by
  simpa [pullAcc] using pull_cycles_le s s.wM

theorem pullP_noCredit : NoCredit pullP := fun s => by
  rw [pullP, unpack_cycles]
  exact pull8_cycles_le s

theorem exchangeCE_noCredit : NoCredit exchangeCE := .of_eq fun s => by
  unfold exchangeCE
  split <;> rfl

theorem blockMove_noCredit (delta : Word) (dst src : Byte) : NoCredit (blockMove delta dst src) := fun s => by
  have hcost : (blockMove delta dst src s).cycles = s.cycles - 1 - 1 := by
    unfold blockMove
    split <;> simp
  omega

theorem stopClock_noCredit : NoCredit stopClock := fun s => by
  rw [stopClock_eq]
  exact Int.sub_le_self _ (Int.natCast_nonneg _)

theorem pushFrame_noCredit (k : Event) : NoCredit (pushFrame k) := fun s => by
  unfold pushFrame
  split
  · exact (push8_cycles_le _ _).trans (push16_cycles_le s _)
  · exact (push8_cycles_le _ _).trans ((push16_cycles_le _ _).trans (push8_cycles_le s _))

theorem interrupt_noCredit (k : Event) : NoCredit (interrupt k) := fun s =>
  (readPointer_cycles_le _ _ _).trans (pushFrame_noCredit k s)

theorem returnFromInterrupt_noCredit : NoCredit returnFromInterrupt := fun s => by
  have hpulls : (pull16 (pull8 s).2).2.cycles ≤ s.cycles := (pull16_cycles_le _).trans (pull8_cycles_le s)
  rw [returnFromInterrupt_eq]
  dsimp only
  split
  · simpa using hpulls
  · simpa using (pull8_cycles_le _).trans hpulls

/-! ### No instruction credits a cycle -/

/-- The meaning that a form gives, where there is one, credits no cycle. -/
def FormNoCredit (m : Option Meaning) : Prop := ∀ n ∈ m, NoCredit n.run

theorem FormNoCredit.map {α : Type} {g : α → Meaning} (form : Option α) (h : ∀ o, NoCredit (g o).run) :
    FormNoCredit (form.map g) := fun n hn => by
  obtain ⟨o, -, rfl⟩ := Option.mem_map.mp hn
  exact h o

theorem FormNoCredit.orElse {m n : Option Meaning} (hm : FormNoCredit m) (hn : FormNoCredit n) :
    FormNoCredit (m <|> n) := by
  cases m with
  | none => exact hn
  | some _ => exact hm

/-- The forms in the order of `Meaning.ofForms`. -/
theorem ofForms_noCredit (i : Instr) : FormNoCredit (Meaning.ofForms i) := by
  unfold Meaning.ofForms
  exact .orElse (.map (ldaForm i) lda_noCredit) <|
    .orElse (.map (ldxForm i) fun o s => loadOp_cycles_le s o _) <|
    .orElse (.map (ldyForm i) fun o s => loadOp_cycles_le s o _) <|
    .orElse (.map (staForm i) fun m s => storeOp_cycles_le s m _ _) <|
    .orElse (.map (stxForm i) fun m s => storeOp_cycles_le s m _ _) <|
    .orElse (.map (styForm i) fun m s => storeOp_cycles_le s m _ _) <|
    .orElse (.map (stzForm i) fun m s => storeOp_cycles_le s m _ _) <|
    .orElse (.map (adcForm i) adc_noCredit) <|
    .orElse (.map (sbcForm i) sbc_noCredit) <|
    .orElse (.map (cmpForm i) fun o s => loadOp_cycles_le s o _) <|
    .orElse (.map (cpxForm i) fun o s => loadOp_cycles_le s o _) <|
    .orElse (.map (cpyForm i) fun o s => loadOp_cycles_le s o _) <|
    .orElse (.map (andForm i) (logic_noCredit _)) <|
    .orElse (.map (oraForm i) (logic_noCredit _)) <|
    .orElse (.map (eorForm i) (logic_noCredit _)) <|
    .orElse (.map (bitForm i) fun m s => loadOp_cycles_le s (.mem m) _) <|
    .orElse (.map (shiftMemForm i) fun p => rmwMem_cycles_le (shiftFn p.1) p.2) <|
    .orElse (.map (shiftAccForm i) fun k => rmwAcc_noCredit (shiftFn k)) <|
    .orElse (.map (tsbForm i) fun m s => rmwMem_cycles_le (tsbFn s.acc) m s) <|
    .orElse (.map (trbForm i) fun m s => rmwMem_cycles_le (trbFn s.acc) m s) <|
    .map (branchForm i) fun p => .of_eq fun s => branch_cycles _ p.2 s

/-- The other instructions: those that access memory, and those that write registers alone. -/
theorem single_noCredit (i : Instr) : NoCredit (Meaning.single i).run := by
  cases i
  -- control flow
  case jmpInd p => exact fun s => readPointer_cycles_le s 0 p
  case jmpXInd p => exact jumpIndexed_noCredit p
  case jmlInd p => exact readPointerLong_cycles_le p
  case jsrAbs w => exact fun s => push16_cycles_le s _
  case jsrXInd p => exact fun s => (jumpIndexed_noCredit p _).trans (push16_cycles_le s _)
  case jsl l => exact fun s => (push16_cycles_le _ _).trans (push8_cycles_le s _)
  case rts => exact pull16_cycles_le
  case rtl => exact fun s => (pull8_cycles_le _).trans (pull16_cycles_le s)
  -- the stack
  case pha | phx | phy => exact fun s => push_cycles_le s _ _
  case php | phb | phk => exact fun s => push8_cycles_le s _
  case phd | pea | per => exact fun s => push16_cycles_le s _
  case pei d => exact pushIndirect_noCredit d
  case pla => exact pullAcc_noCredit
  case plx | ply => exact fun s => pull_cycles_le s _
  case plb => exact pull8_cycles_le
  case pld => exact pull16_cycles_le
  case plp => exact pullP_noCredit
  -- mode and system
  case rep | sep => exact .of_eq fun s => unpackN_cycles _ s
  case xce => exact exchangeCE_noCredit
  case stp => exact stopClock_noCredit
  case brk => exact interrupt_noCredit .brk
  case cop => exact interrupt_noCredit .cop
  case rti => exact returnFromInterrupt_noCredit
  -- transfers
  case txa | tya => exact .of_eq fun s => transferAcc_cycles _ s
  case mvn dst src => exact blockMove_noCredit 1 dst src
  case mvp dst src => exact blockMove_noCredit (-1) dst src
  -- registers and flags alone
  case inx | dex => exact stepX_noCredit _
  case iny | dey => exact stepY_noCredit _
  all_goals exact .of_eq fun _ => rfl

theorem meaning_noCredit (i : Instr) : NoCredit (Meaning.of i).run := by
  rw [Meaning.of]
  cases hform : Meaning.ofForms i with
  | none => exact single_noCredit i
  | some m => exact ofForms_noCredit i m hform

/-! ### Every iteration debits a cycle -/

/-- The opcode's fetch debits a cycle (70_reset_and_hazards.md R620). -/
theorem fetchInstr_cycles_lt (s : State) : (fetchInstr s).2.cycles < s.cycles := by
  have hrest := congrArg State.cycles
    (fetchBytes_eq ((formOf (fetch8 s).1).operandBytes s.m8 s.x8) (fetch8 s).2)
  have hop : (fetch8 s).2.cycles = s.cycles - 1 := congrArg (fun f => f.2.cycles) (fetch8_eq s)
  rw [fetchInstr]
  dsimp only at hrest ⊢
  omega

theorem runInstr_cycles_lt {s u : State} (h : runInstr s = .next u) : u.cycles < s.cycles := by
  obtain ⟨r, -, hexec⟩ := runInstr_cases h
  rw [exec_eq_run] at hexec
  obtain rfl := Host.Outcome.next.inj hexec
  exact (meaning_noCredit r.1 _).trans_lt (fetchInstr_cycles_lt s)

theorem sampleLines_cycles (s : State) : (sampleLines s).cycles = s.cycles := by
  unfold sampleLines
  split <;> rfl

/-- A reset clears the counter, and no other event credits a cycle. -/
theorem takeEvent_cycles_le (s : State) : (takeEvent s).cycles ≤ max s.cycles 0 := by
  unfold takeEvent
  split
  · exact Int.le_max_right _ _
  split
  · exact (interrupt_noCredit .nmi _).trans (Int.le_max_left _ _)
  split
  · exact (interrupt_noCredit .irq s).trans (Int.le_max_left _ _)
  · exact Int.le_max_left _ _

theorem yieldCheck_noCredit : NoCredit yieldCheck := fun s => by
  unfold yieldCheck
  split
  · exact Int.min_le_left _ _
  · exact Int.le_refl _

theorem endIteration_cycles_le (s : State) : (endIteration s).cycles ≤ max s.cycles 0 := by
  have hevent := takeEvent_cycles_le (sampleLines s)
  rw [sampleLines_cycles] at hevent
  exact (yieldCheck_noCredit _).trans hevent

/-- A step from a positive balance leaves a lower one, if an idle iteration costs a cycle. -/
theorem step_cycles_lt {s t : State} (hidle : 1 ≤ s.cfg.waiIdleCycles) (hpos : 0 < s.cycles) (h : step s = .next t) :
    t.cycles < s.cycles := by
  obtain ⟨u, rfl, hcase⟩ := step_cases h
  have hend := endIteration_cycles_le u
  have hlt : u.cycles < s.cycles := by
    obtain ⟨-, rfl⟩ | ⟨-, hrun⟩ := hcase
    · rw [debit_cycles]
      omega
    · exact runInstr_cycles_lt hrun
  omega

/-! ### The run of exec -/

/-- With as much fuel as the balance has cycles, the loop ends with the balance spent. -/
theorem runLoop_spends (fuel : Nat) (s : State) (hidle : 1 ≤ s.cfg.waiIdleCycles) (hfuel : s.cycles ≤ fuel) :
    ∃ t, runLoop fuel s = .next t ∧ t.cycles ≤ 0 := by
  induction fuel generalizing s with
  | zero => exact ⟨s, rfl, hfuel⟩
  | succ fuel ih =>
    rw [runLoop]
    split
    · next hpos =>
      obtain ⟨u, hstep⟩ := stepAlwaysAnswersNext s
      have hlt := step_cycles_lt hidle hpos hstep
      have hcfg : u.cfg = s.cfg := (step_sound hstep).cfg
      obtain ⟨t, hrun, hspent⟩ := ih u (by rwa [hcfg]) (by omega)
      exact ⟨t, by rw [hstep]; exact hrun, hspent⟩
    · next hspent => exact ⟨s, rfl, Int.not_lt.mp hspent⟩

/-- Settles O15: the fuel of `execCall` is the balance at its start. -/
theorem execReturnsWithBudgetSpent : Obligations.ExecReturnsWithBudgetSpent := by
  unfold Obligations.ExecReturnsWithBudgetSpent
  exact fun s budget hidle => runLoop_spends _ (addBudget budget s) hidle (Int.self_le_toNat _)

end Sys2Proof.Machine
end
